-- ==== Sys2Proof/Word.lean ====
section
/-! DEFINITION. The words of the block and the two enumerations its encodings use. -/

namespace Sys2Proof

/-- One byte: the unit of arrival on the link (20_memory.md R55), of the payload and of a reply. -/
abbrev Byte := BitVec 8

/-- The 3-bit opcode field of a command byte and of a frame (00_scope.md R6, `OPC_BITS`; 30_encoding.md R81). -/
abbrev OpcodeField := BitVec 3

/-- The 5-bit length / sub-code field of a command byte and of a frame (00_scope.md R6, `LEN_BITS`; 30_encoding.md R81). -/
abbrev Len := BitVec 5

/-- An index of the slot array (00_scope.md R6, `IDX_BITS`; 20_memory.md R51). -/
abbrev SlotIndex := BitVec 5

/-- The 3-bit opcode enumeration, the same for a command byte and a frame (10_state.md R21). -/
inductive Opcode where
  | read
  | getStatus
  | setCursor
  | lcdWrite
  | lcdClear
  | setLeds
  | beep
  /-- 7, the space of the sentinels; a frame of this opcode is an INIT frame. -/
  | other
  deriving DecidableEq, Repr

/-- The three formats of the opcode table (30_encoding.md R80): what a byte is, is decided outside its bits. -/
inductive Format where
  /-- CMD: a byte received while `POS = 0`. -/
  | command
  /-- DATA: a byte received while `POS > 0`. -/
  | payload
  /-- FRAME: the header of a frame, packed as `opcode * 32 + length` (R92). -/
  | frameHeader
  deriving DecidableEq, Repr

end Sys2Proof
end

