-- ==== Sys2Proof/Config.lean ====
section
/-! DEFINITION. The implementation parameters of 00_scope.md R6, and the values the spec leaves open. -/

namespace Sys2Proof.Config

/-- `OPC_BITS`: the width of the opcode field of a command byte and of a frame (R6). -/
abbrev opcBits : Nat := 3

/-- `LEN_BITS`: the width of the length / sub-code field (R6). -/
abbrev lenBits : Nat := 5

/-- `N_SLOTS`: storage slots of the ring (R6; 90_conflicts.md C1). -/
abbrev nSlots : Nat := 32

/-- `IDX_BITS = log2(N_SLOTS)`: the width of `HEAD` and `TAIL` (R6). -/
abbrev idxBits : Nat := Nat.log2 nSlots

/-- `IDX_MASK = N_SLOTS - 1` (R6). -/
abbrev idxMask : Nat := nSlots - 1

/-- `USABLE = N_SLOTS - 1`: the largest number of frames the ring can hold (R6, 40_ringbuffer.md R116). -/
abbrev usable : Nat := nSlots - 1

/-- `GUARD`: the guard band subtracted from the slot count (R6; 90_conflicts.md C2). -/
abbrev guardBand : Nat := 10

/-- `BUSY_THRESHOLD = N_SLOTS - GUARD`, which is 22 (R6). -/
abbrev busyThreshold : Nat := nSlots - guardBand

/-- `MAX_PAYLOAD`: payload byte cells of a frame (R6). -/
abbrev maxPayload : Nat := 32

/-- `INIT_BYTE` (R6). -/
abbrev initByte : Byte := 0xFE#8

/-- `POLL_BYTE` (R6). -/
abbrev pollByte : Byte := 0xFF#8

/-- What command bytes `0xE0..0xFD` do (41_framing.md R138; 93_implementation_defined.md U6). -/
inductive Reserved7Policy where
  /-- A one-byte no-op. -/
  | ignore
  /-- A framed command of opcode 7 with `len` payload bytes. -/
  | frame
  deriving DecidableEq, Repr

/-- What GET_STATUS sub-codes 3..31 do (42_status_control.md R165; U5). The spec names no other value. -/
inductive StatusRsvdPolicy where
  /-- No reply, no state change. -/
  | ignore
  deriving DecidableEq, Repr

/-- How the 16-bit encoder count becomes the 8-bit reply (42_status_control.md R163; U13). -/
inductive EncNarrow where
  /-- The low 8 bits. -/
  | truncate
  /-- The nearest of `-128..127`. -/
  | saturate
  deriving DecidableEq, Repr

/-- `RESERVED7_POLICY` (R6). DESIGN CHOICE of the spec (D7), unsafe: log 10. -/
def reserved7Policy : Reserved7Policy := .ignore

/-- `STATUS_RSVD_POLICY` (R6). DESIGN CHOICE of the spec (D8), unsafe: log 11. -/
def statusRsvdPolicy : StatusRsvdPolicy := .ignore

/-- `ENC_NARROW` (R6). DESIGN CHOICE of the spec (D10), unsafe: log 12. -/
def encNarrow : EncNarrow := .truncate

/-- `BEEP_DEFAULT_DURATION`: OPEN (R6, D15, U9), a free value fixed for the life of the block. Safe: log 13. -/
opaque beepDefaultDuration : Nat

/-- `BEEP_DEFAULT_FREQ`: OPEN (R6, D15, U9), a free value fixed for the life of the block. Safe: log 13. -/
opaque beepDefaultFreq : Nat

/-- What a payload cell holds in which nothing of this frame was stored, from the bytes that were stored and the
cell's number: any value (10_state.md R20; U11), a free value. Safe: log 14. -/
opaque staleCell : List Byte → Nat → Byte

/-! ## The widths of the types are the parameters

The types of Word.lean write their widths as numerals, which the decision procedures read; these equations keep them equal to
the parameters above. -/

/-- The opcode field has `OPC_BITS` bits. -/
theorem opcodeField_eq_bitVec_opcBits : OpcodeField = BitVec opcBits := rfl

/-- The length / sub-code field has `LEN_BITS` bits. -/
theorem len_eq_bitVec_lenBits : Len = BitVec lenBits := rfl

/-- A slot index has `IDX_BITS` bits. -/
theorem slotIndex_eq_bitVec_idxBits : SlotIndex = BitVec idxBits := rfl

/-- The opcode field and the length field fill a byte. -/
theorem byte_eq_bitVec_fields : Byte = BitVec (opcBits + lenBits) := rfl

end Sys2Proof.Config
end

