-- ==== Sys2Proof/Machine/State.lean ====
section
/-! DEFINITION. The state of the block and of its environment, the ways a step can stop, and the state after reset. -/

namespace Sys2Proof.Machine

/-- A frame: "one complete command unit (opcode + length + payload)" (10_state.md R20). `length` is the declared length;
`payload` is the list of the bytes stored, in arrival order. -/
structure Frame where
  opcode : Opcode
  length : Len
  payload : List Byte
  deriving DecidableEq, Repr

/-- The frame the reset values name: opcode 0, length 0, no payload (10_state.md R25, R39). -/
abbrev Frame.zero : Frame := ⟨.read, 0#5, []⟩

/-- A step an agent can take (00_scope.md R7): the atoms of every run. -/
inductive Event where
  /-- `RX(b)`: the master has sent a byte (41_framing.md R130, 60_exceptions.md R226). -/
  | rx (b : Byte)
  /-- `POP` of the consumer (44_dispatch.md R192). -/
  | pop
  /-- `EXEC` of the consumer (44_dispatch.md R193). -/
  | exec
  /-- `REFRESH` of the consumer (44_dispatch.md R204). -/
  | refresh
  /-- `EncMove(d)` of the environment, any signed `d` (10_state.md R36). -/
  | encMove (d : Int)
  /-- `BtnChange(m)` of the environment (10_state.md R36). -/
  | btnChange (m : Byte)
  /-- The `rst` input (70_reset_and_hazards.md R250). -/
  | rst
  deriving DecidableEq, Repr

/-- What a step emits: a reply to the master (42_status_control.md R160) or an operation on a peripheral port
(44_dispatch.md R190). -/
inductive Output where
  | reply (v : Byte)
  | displayWrite (c : Byte)
  | displaySetCursor (row : BitVec 3) (col : BitVec 5)
  | displayClear
  | displaySetBacklight (mask : Byte)
  /-- `Buzzer.buzz(durationMs, frequencyHz)`; the spec gives the default arguments no width (log 22). -/
  | buzz (duration frequency : Nat)
  | encoderReset
  deriving DecidableEq, Repr

/-- One entry of what a run shows (00_scope.md R8): a step was taken, it emitted an output, it left `busy` at a level. -/
inductive Obs where
  | took (e : Event)
  | output (o : Output)
  | busyLevel (level : Bool)
  deriving DecidableEq, Repr

/-- The state: the block's (10_state.md R22 to R34), the environment's (R36), and the model's own `script` and `trace`. -/
structure State where
  /-- `POS` (R22): 0 is AwaitingOpcode, any other value AccumulatingPayload. -/
  pos : BitVec 6
  /-- `TOREAD` (R24). -/
  toread : Len
  /-- `CUR` (R25), the frame under assembly. -/
  cur : Frame
  /-- `SLOT[0..31]` (R27). -/
  slots : Vector Frame Config.nSlots
  /-- `HEAD` (R28), the next slot to write. -/
  head : SlotIndex
  /-- `TAIL` (R29), the next slot to read. -/
  tail : SlotIndex
  /-- `BUSY` (R31), the level of the `busy` pin (43_flow_control.md R183). -/
  busy : Bool
  /-- `BTN` (R32), the button mirror. -/
  btn : Byte
  /-- `DREG` (R34), the frame removed from the ring and not yet executed. -/
  dreg : Frame
  /-- `DVALID` (R34). -/
  dvalid : Bool
  /-- `ENC` of the environment (R36), a signed 16-bit count. -/
  enc : BitVec 16
  /-- `BTN_IN` of the environment (R36). -/
  btnIn : Byte
  /-- The steps that are going to be taken, in order (the model's own; log 1). -/
  script : List Event
  /-- What the run has shown so far, oldest first (the model's own; log 5). -/
  trace : List Obs
  deriving DecidableEq, Repr

/-- The faults of the block: none. "A model has no fault outcome for any byte sequence or any schedule" (60_exceptions.md
R220; log 25). -/
inductive Fault where
  deriving DecidableEq, Repr

/-- Why the model gives no meaning. -/
inductive Refusal where
  /-- Raised by an arm of `exec` whose instruction has no meaning yet; no arm does. Safe. -/
  | notModelled (mnemonic : String)
  /-- Raised by `pushBack` on a full ring, to which the spec gives no meaning (40_ringbuffer.md R113; U2). Safe; no step
  of the machine reaches it (log 15). -/
  | pushBackOnFullRing
  /-- Raised by `popFront` on an empty ring, to which the spec gives no meaning (40_ringbuffer.md R114; U1). Safe; no step
  of the machine reaches it (log 15). -/
  | popFrontOnEmptyRing
  deriving DecidableEq, Repr

/-- The machine after power-on reset (10_state.md R39, 70_reset_and_hazards.md R250). The slots, `dreg` and `btnIn` have no
reset value in the spec: DESIGN CHOICE, unsafe (logs 6, 7, 8). -/
def State.reset : State where
  pos := 0#6
  toread := 0#5
  cur := Frame.zero
  slots := Vector.replicate Config.nSlots Frame.zero
  head := 0#5
  tail := 0#5
  busy := false
  btn := 0#8
  dreg := Frame.zero
  dvalid := false
  enc := 0#16
  btnIn := 0#8
  script := []
  trace := []

end Sys2Proof.Machine
end

