-- ==== Sys2Proof/Machine/Ring.lean ====
section
/-! DEFINITION. The ring buffer's queries and mutators (40_ringbuffer.md), and sequencing of outcomes. -/

namespace Sys2Proof.Machine

/-- Go on after a step that answers next; a stop stays a stop. -/
def andThen {α β : Type} (o : Host.Outcome α Fault Refusal) (k : α → Host.Outcome β Fault Refusal) :
    Host.Outcome β Fault Refusal :=
  match o with
  | .next a => k a
  | .fault r => .fault r
  | .refused r => .refused r

/-- `(i + 1) & IDX_MASK`: the index after `i`, 0 after 31 (20_memory.md R51). -/
def nextIndex (i : SlotIndex) : SlotIndex := BitVec.ofNat 5 ((i.toNat + 1) &&& Config.idxMask)

/-- `Size() = (HEAD - TAIL) mod N_SLOTS`, 5 bits (R110). -/
def size (s : State) : BitVec 5 := s.head - s.tail

/-- `IsEmpty()` (R111). -/
def isEmpty (s : State) : Bool := s.head == s.tail

/-- `IsFull()`: the mask is applied to `HEAD + 1` first, then the comparison is made (R112). -/
def isFull (s : State) : Bool := nextIndex s.head == s.tail

/-- `Capacity()`: the slot count (R116). -/
def capacity : Nat := Config.nSlots

/-- `SlotRead(i)` (00_scope.md R11). -/
def slotRead (s : State) (i : SlotIndex) : Frame := s.slots[i.toNat]'i.isLt

/-- `SlotWrite(i, f)` (00_scope.md R11). -/
def slotWrite (i : SlotIndex) (f : Frame) (s : State) : State :=
  { s with slots := s.slots.set i.toNat f i.isLt }

/-- `PushBack(f)`: write the slot at `HEAD`, then advance `HEAD`; no meaning on a full ring (R113, 20_memory.md R63). -/
def pushBack (f : Frame) (s : State) : Host.Outcome State Fault Refusal :=
  if isFull s then .refused .pushBackOnFullRing
  else
    let s1 := slotWrite s.head f s
    .next { s1 with head := nextIndex s1.head }

/-- `PopFront()`: read the slot at `TAIL`, then advance `TAIL`; no meaning on an empty ring (R114, 20_memory.md R63). -/
def popFront (s : State) : Host.Outcome (Frame × State) Fault Refusal :=
  if isEmpty s then .refused .popFrontOnEmptyRing
  else .next (slotRead s s.tail, { s with tail := nextIndex s.tail })

/-- `Clear()`: both indices to 0, the slots are not written (R115). -/
def clear (s : State) : State := { s with head := 0#5, tail := 0#5 }

end Sys2Proof.Machine
end

