-- ==== Sys2Proof/Machine/Flags.lean ====
section
/-! DEFINITION. The one flag of the block, `BUSY` (43_flow_control.md). -/

namespace Sys2Proof.Machine

/-- Assertion, after a successful push: `if Size() >= BUSY_THRESHOLD: BUSY <- 1` (R180). -/
def assertBusy (s : State) : State :=
  if Config.busyThreshold ≤ (size s).toNat then { s with busy := true } else s

/-- Deassertion, on a POLL: `if IsEmpty(): BUSY <- 0` (R181). -/
def deassertBusy (s : State) : State :=
  if isEmpty s then { s with busy := false } else s

end Sys2Proof.Machine
end

