-- ==== Sys2Proof/Syntax.lean ====
section
/-! DEFINITION. The instructions: one constructor for each mnemonic of spec/opcode_table.json. Rows of the table that share
a mnemonic are mask/match blocks of one instruction (30_encoding.md R84, R92; log 29). -/

namespace Sys2Proof

/-- The instructions of the block: the command bytes (format CMD, 30_encoding.md R84), the payload byte (format DATA,
41_framing.md R139) and the frame headers (format FRAME, 30_encoding.md R92). -/
inductive Instr where
  /-- `READ`, `0x00..0x1F`, any `len` (41_framing.md R131). -/
  | read (len : Len)
  /-- `GET_STATUS BUTTONS`, `0x20` (42_status_control.md R162). -/
  | getStatusButtons
  /-- `GET_STATUS ENCODER`, `0x21` (42_status_control.md R163). -/
  | getStatusEncoder
  /-- `GET_STATUS QDEPTH`, `0x22` (42_status_control.md R164). -/
  | getStatusQdepth
  /-- `GET_STATUS` reserved sub-codes 3..31, `0x23..0x3F` (42_status_control.md R165). -/
  | getStatusRsvd (sub : Len)
  /-- `SET_CURSOR`, `0x40..0x5F`: starts a frame of `len` payload bytes (41_framing.md R133). -/
  | setCursor (len : Len)
  /-- `LCD_WRITE`, `0x60..0x7F` (41_framing.md R134). -/
  | lcdWrite (len : Len)
  /-- `LCD_CLEAR`, `0x80..0x9F` (41_framing.md R135). -/
  | lcdClear (len : Len)
  /-- `SET_LEDS`, `0xA0..0xBF` (41_framing.md R136). -/
  | setLeds (len : Len)
  /-- `BEEP`, `0xC0..0xDF` (41_framing.md R137). -/
  | beep (len : Len)
  /-- `RSVD7`, `0xE0..0xFD` (41_framing.md R138). -/
  | rsvd7 (len : Len)
  /-- `INIT`, `0xFE` (42_status_control.md R166). -/
  | init
  /-- `POLL`, `0xFF` (42_status_control.md R167). -/
  | poll
  /-- `DATA`, any byte received while `POS > 0` (41_framing.md R139). -/
  | data (d : Byte)
  /-- A frame of opcode 0 (44_dispatch.md R201). -/
  | execNoneOpcode0 (length : Len)
  /-- A frame of opcode 1 (44_dispatch.md R201). -/
  | execNoneOpcode1 (length : Len)
  /-- A `SET_CURSOR` frame of length 1 (44_dispatch.md R195). -/
  | execSetCursor
  /-- A `SET_CURSOR` frame of any other length (44_dispatch.md R195). -/
  | execSetCursorMalformed (length : Len)
  /-- An `LCD_WRITE` frame with `0 < length <= MAX_PAYLOAD` (44_dispatch.md R196). -/
  | execLcdWrite (length : Len)
  /-- An `LCD_WRITE` frame of any other length (44_dispatch.md R196). -/
  | execLcdWriteMalformed (length : Len)
  /-- An `LCD_CLEAR` frame, any length (44_dispatch.md R197). -/
  | execLcdClear (length : Len)
  /-- A `SET_LEDS` frame of length 1 (44_dispatch.md R198). -/
  | execSetLeds
  /-- A `SET_LEDS` frame of any other length (44_dispatch.md R198). -/
  | execSetLedsMalformed (length : Len)
  /-- A `BEEP` frame of length 3 (44_dispatch.md R199). -/
  | execBeep
  /-- A `BEEP` frame of any other length (44_dispatch.md R199). -/
  | execBeepDefault (length : Len)
  /-- A frame of opcode 7, any length (44_dispatch.md R200). -/
  | execInit (length : Len)
  deriving DecidableEq, Repr

end Sys2Proof
end

