-- ==== Sys2Proof/WellFormed.lean ====
section
/-! DEFINITION. Which instruction terms stand for an encoding: each instruction's operand lies in the range its rows of the
opcode table give it. -/

namespace Sys2Proof

/-- The `length` that makes an `LCD_WRITE` frame meaningful: `0 < length <= MAX_PAYLOAD` (44_dispatch.md R196). -/
abbrev writableLength (n : Len) : Prop := 0 < n.toNat ∧ n.toNat ≤ Config.maxPayload

/-- `i` has an encoding: its operand is in the range of its rows (30_encoding.md R84 and R92). -/
def Instr.wellFormed : Instr → Bool
  | .read _ => true
  | .getStatusButtons => true
  | .getStatusEncoder => true
  | .getStatusQdepth => true
  | .getStatusRsvd sub => decide (3 ≤ sub.toNat)
  | .setCursor _ => true
  | .lcdWrite _ => true
  | .lcdClear _ => true
  | .setLeds _ => true
  | .beep _ => true
  | .rsvd7 len => decide (len.toNat ≤ 29)
  | .init => true
  | .poll => true
  | .data _ => true
  | .execNoneOpcode0 _ => true
  | .execNoneOpcode1 _ => true
  | .execSetCursor => true
  | .execSetCursorMalformed n => decide (n.toNat ≠ 1)
  | .execLcdWrite n => decide (writableLength n)
  | .execLcdWriteMalformed n => decide (¬ writableLength n)
  | .execLcdClear _ => true
  | .execSetLeds => true
  | .execSetLedsMalformed n => decide (n.toNat ≠ 1)
  | .execBeep => true
  | .execBeepDefault n => decide (n.toNat ≠ 3)
  | .execInit _ => true

end Sys2Proof
end

