-- ==== Sys2Proof/Decode.lean ====
section
/-! DEFINITION. The decoder of the three formats, total on every byte; the encoder, its inverse; the opcode table's rows. -/

namespace Sys2Proof

/-! ## Bit fields -/

/-- `b[7:5]` (30_encoding.md R81). -/
def opcodeField (b : Byte) : OpcodeField := b.extractLsb' 5 3

/-- `b[4:0]` (30_encoding.md R81). -/
def lenField (b : Byte) : Len := b.extractLsb' 0 5

/-- The opcode a 3-bit field names (10_state.md R21). -/
def opcodeOfBits (x : OpcodeField) : Opcode :=
  match x.toNat with
  | 0 => .read
  | 1 => .getStatus
  | 2 => .setCursor
  | 3 => .lcdWrite
  | 4 => .lcdClear
  | 5 => .setLeds
  | 6 => .beep
  | _ => .other

/-- The 3-bit field of an opcode (10_state.md R21). -/
def opcodeBits : Opcode → OpcodeField
  | .read => 0#3
  | .getStatus => 1#3
  | .setCursor => 2#3
  | .lcdWrite => 3#3
  | .lcdClear => 4#3
  | .setLeds => 5#3
  | .beep => 6#3
  | .other => 7#3

/-- The opcode of a command byte or of a packed frame header. -/
def opcodeOf (b : Byte) : Opcode := opcodeOfBits (opcodeField b)

/-- `opcode * 32 + len`: the more significant field in the more significant bits (20_memory.md R53, 30_encoding.md R81, R92). -/
def packFields (op : Opcode) (len : Len) : Byte := opcodeBits op ++ len

/-! ## The decoder -/

/-- The wire decode of a command byte (30_encoding.md R84, 41_framing.md R130): every value is assigned. -/
def decodeCommand (b : Byte) : Instr :=
  let len := lenField b
  match opcodeOf b with
  | .read => .read len
  | .getStatus =>
    if len = 0#5 then .getStatusButtons
    else if len = 1#5 then .getStatusEncoder
    else if len = 2#5 then .getStatusQdepth
    else .getStatusRsvd len
  | .setCursor => .setCursor len
  | .lcdWrite => .lcdWrite len
  | .lcdClear => .lcdClear len
  | .setLeds => .setLeds len
  | .beep => .beep len
  | .other =>
    if b = Config.initByte then .init
    else if b = Config.pollByte then .poll
    else .rsvd7 len

/-- The frame decode of a packed header (30_encoding.md R92, 44_dispatch.md R193 to R201): every value is assigned. -/
def decodeHeader (h : Byte) : Instr :=
  let n := lenField h
  match opcodeOf h with
  | .read => .execNoneOpcode0 n
  | .getStatus => .execNoneOpcode1 n
  | .setCursor => if n = 1#5 then .execSetCursor else .execSetCursorMalformed n
  | .lcdWrite => if writableLength n then .execLcdWrite n else .execLcdWriteMalformed n
  | .lcdClear => .execLcdClear n
  | .setLeds => if n = 1#5 then .execSetLeds else .execSetLedsMalformed n
  | .beep => if n = 3#5 then .execBeep else .execBeepDefault n
  | .other => .execInit n

/-- The decoder: the format says which of the two tables reads the byte; a payload byte is not decoded at all
(30_encoding.md R80). No encoding is illegal (R86). -/
def decode (fmt : Format) (b : Byte) : Instr :=
  match fmt with
  | .command => decodeCommand b
  | .payload => .data b
  | .frameHeader => decodeHeader b

/-- Why a sequence of bytes holds no instruction. -/
inductive DecodeError where
  /-- The sequence is empty; the only reason there is (30_encoding.md R86). Safe. -/
  | noByte
  deriving DecidableEq, Repr

/-- The first instruction of a sequence of bytes, and the rest: every instruction is one byte (30_encoding.md R81, R83: a
framed command's payload bytes are `DATA` instructions of their own). -/
def decodeBytes (fmt : Format) : List Byte → Except DecodeError (Instr × List Byte)
  | [] => .error .noByte
  | b :: rest => .ok (decode fmt b, rest)

/-! ## The encoder -/

/-- The format an instruction is encoded in. -/
def formatOf : Instr → Format
  | .read _ => .command
  | .getStatusButtons => .command
  | .getStatusEncoder => .command
  | .getStatusQdepth => .command
  | .getStatusRsvd _ => .command
  | .setCursor _ => .command
  | .lcdWrite _ => .command
  | .lcdClear _ => .command
  | .setLeds _ => .command
  | .beep _ => .command
  | .rsvd7 _ => .command
  | .init => .command
  | .poll => .command
  | .data _ => .payload
  | .execNoneOpcode0 _ => .frameHeader
  | .execNoneOpcode1 _ => .frameHeader
  | .execSetCursor => .frameHeader
  | .execSetCursorMalformed _ => .frameHeader
  | .execLcdWrite _ => .frameHeader
  | .execLcdWriteMalformed _ => .frameHeader
  | .execLcdClear _ => .frameHeader
  | .execSetLeds => .frameHeader
  | .execSetLedsMalformed _ => .frameHeader
  | .execBeep => .frameHeader
  | .execBeepDefault _ => .frameHeader
  | .execInit _ => .frameHeader

/-- The byte of a well-formed instruction, from the match values of spec/opcode_table.json (30_encoding.md R84, R92). -/
def encode : Instr → Byte
  | .read len => 0x00#8 ||| len.zeroExtend 8
  | .getStatusButtons => 0x20#8
  | .getStatusEncoder => 0x21#8
  | .getStatusQdepth => 0x22#8
  | .getStatusRsvd sub => 0x20#8 ||| sub.zeroExtend 8
  | .setCursor len => 0x40#8 ||| len.zeroExtend 8
  | .lcdWrite len => 0x60#8 ||| len.zeroExtend 8
  | .lcdClear len => 0x80#8 ||| len.zeroExtend 8
  | .setLeds len => 0xA0#8 ||| len.zeroExtend 8
  | .beep len => 0xC0#8 ||| len.zeroExtend 8
  | .rsvd7 len => 0xE0#8 ||| len.zeroExtend 8
  | .init => 0xFE#8
  | .poll => 0xFF#8
  | .data d => d
  | .execNoneOpcode0 n => 0x00#8 ||| n.zeroExtend 8
  | .execNoneOpcode1 n => 0x20#8 ||| n.zeroExtend 8
  | .execSetCursor => 0x41#8
  | .execSetCursorMalformed n => 0x40#8 ||| n.zeroExtend 8
  | .execLcdWrite n => 0x60#8 ||| n.zeroExtend 8
  | .execLcdWriteMalformed n => 0x60#8 ||| n.zeroExtend 8
  | .execLcdClear n => 0x80#8 ||| n.zeroExtend 8
  | .execSetLeds => 0xA1#8
  | .execSetLedsMalformed n => 0xA0#8 ||| n.zeroExtend 8
  | .execBeep => 0xC3#8
  | .execBeepDefault n => 0xC0#8 ||| n.zeroExtend 8
  | .execInit n => 0xE0#8 ||| n.zeroExtend 8

/-! ## The opcode table's words -/

/-- The bytes of an instruction word as the opcode table numbers its bits: byte 0 holds bits 7..0. -/
def wordBytes (nbits w : Nat) : List Byte :=
  (List.range ((nbits + 7) / 8)).map fun k => BitVec.ofNat 8 (w / 256 ^ k)

/-- The instruction the wire decoder reads from an opcode-table word: the word is a COMMAND byte, as the first byte after a
reset is (70_reset_and_hazards.md R255). A word of a FRAME or DATA row has the same bits as some command byte, and bits alone
do not tell the formats apart (30_encoding.md R80); those rows are read by `decode .frameHeader` and `decode .payload`.
DESIGN CHOICE: log 4. -/
def decodeTableWord (nbits w : Nat) : Option Instr :=
  match decodeBytes .command (wordBytes nbits w) with
  | .ok (i, _) => some i
  | .error _ => none

/-- One row of spec/opcode_table.json. -/
structure TableRow where
  mnemonic : String
  format : Format
  matchBits : Byte
  mask : Byte
  deriving DecidableEq, Repr

/-- `b` is a word of row `r`. -/
def TableRow.covers (r : TableRow) (b : Byte) : Bool := (b &&& r.mask) == r.matchBits

/-- The CMD rows of spec/opcode_table.json, in its order. -/
def commandRows : List TableRow :=
  [ ⟨"READ", .command, 0x00#8, 0xE0#8⟩,
    ⟨"GET_STATUS_BUTTONS", .command, 0x20#8, 0xFF#8⟩,
    ⟨"GET_STATUS_ENCODER", .command, 0x21#8, 0xFF#8⟩,
    ⟨"GET_STATUS_QDEPTH", .command, 0x22#8, 0xFF#8⟩,
    ⟨"GET_STATUS_RSVD", .command, 0x23#8, 0xFF#8⟩,
    ⟨"GET_STATUS_RSVD", .command, 0x24#8, 0xFC#8⟩,
    ⟨"GET_STATUS_RSVD", .command, 0x28#8, 0xF8#8⟩,
    ⟨"GET_STATUS_RSVD", .command, 0x30#8, 0xF0#8⟩,
    ⟨"SET_CURSOR", .command, 0x40#8, 0xE0#8⟩,
    ⟨"LCD_WRITE", .command, 0x60#8, 0xE0#8⟩,
    ⟨"LCD_CLEAR", .command, 0x80#8, 0xE0#8⟩,
    ⟨"SET_LEDS", .command, 0xA0#8, 0xE0#8⟩,
    ⟨"BEEP", .command, 0xC0#8, 0xE0#8⟩,
    ⟨"RSVD7", .command, 0xE0#8, 0xF0#8⟩,
    ⟨"RSVD7", .command, 0xF0#8, 0xF8#8⟩,
    ⟨"RSVD7", .command, 0xF8#8, 0xFC#8⟩,
    ⟨"RSVD7", .command, 0xFC#8, 0xFE#8⟩,
    ⟨"INIT", .command, 0xFE#8, 0xFF#8⟩,
    ⟨"POLL", .command, 0xFF#8, 0xFF#8⟩ ]

/-- The FRAME rows of spec/opcode_table.json, in its order. -/
def headerRows : List TableRow :=
  [ ⟨"exec_NONE__opcode_0", .frameHeader, 0x00#8, 0xE0#8⟩,
    ⟨"exec_NONE__opcode_1", .frameHeader, 0x20#8, 0xE0#8⟩,
    ⟨"exec_SET_CURSOR", .frameHeader, 0x41#8, 0xFF#8⟩,
    ⟨"exec_SET_CURSOR_malformed", .frameHeader, 0x40#8, 0xFF#8⟩,
    ⟨"exec_SET_CURSOR_malformed", .frameHeader, 0x42#8, 0xFE#8⟩,
    ⟨"exec_SET_CURSOR_malformed", .frameHeader, 0x44#8, 0xFC#8⟩,
    ⟨"exec_SET_CURSOR_malformed", .frameHeader, 0x48#8, 0xF8#8⟩,
    ⟨"exec_SET_CURSOR_malformed", .frameHeader, 0x50#8, 0xF0#8⟩,
    ⟨"exec_LCD_WRITE_malformed", .frameHeader, 0x60#8, 0xFF#8⟩,
    ⟨"exec_LCD_WRITE", .frameHeader, 0x61#8, 0xFF#8⟩,
    ⟨"exec_LCD_WRITE", .frameHeader, 0x62#8, 0xFE#8⟩,
    ⟨"exec_LCD_WRITE", .frameHeader, 0x64#8, 0xFC#8⟩,
    ⟨"exec_LCD_WRITE", .frameHeader, 0x68#8, 0xF8#8⟩,
    ⟨"exec_LCD_WRITE", .frameHeader, 0x70#8, 0xF0#8⟩,
    ⟨"exec_LCD_CLEAR", .frameHeader, 0x80#8, 0xE0#8⟩,
    ⟨"exec_SET_LEDS", .frameHeader, 0xA1#8, 0xFF#8⟩,
    ⟨"exec_SET_LEDS_malformed", .frameHeader, 0xA0#8, 0xFF#8⟩,
    ⟨"exec_SET_LEDS_malformed", .frameHeader, 0xA2#8, 0xFE#8⟩,
    ⟨"exec_SET_LEDS_malformed", .frameHeader, 0xA4#8, 0xFC#8⟩,
    ⟨"exec_SET_LEDS_malformed", .frameHeader, 0xA8#8, 0xF8#8⟩,
    ⟨"exec_SET_LEDS_malformed", .frameHeader, 0xB0#8, 0xF0#8⟩,
    ⟨"exec_BEEP", .frameHeader, 0xC3#8, 0xFF#8⟩,
    ⟨"exec_BEEP_default", .frameHeader, 0xC0#8, 0xFF#8⟩,
    ⟨"exec_BEEP_default", .frameHeader, 0xC1#8, 0xFF#8⟩,
    ⟨"exec_BEEP_default", .frameHeader, 0xC2#8, 0xFF#8⟩,
    ⟨"exec_BEEP_default", .frameHeader, 0xC4#8, 0xFC#8⟩,
    ⟨"exec_BEEP_default", .frameHeader, 0xC8#8, 0xF8#8⟩,
    ⟨"exec_BEEP_default", .frameHeader, 0xD0#8, 0xF0#8⟩,
    ⟨"exec_INIT", .frameHeader, 0xE0#8, 0xE0#8⟩ ]

/-- All rows of spec/opcode_table.json: the CMD rows, the DATA row, the FRAME rows. -/
def opcodeTable : List TableRow :=
  commandRows ++ [⟨"DATA", .payload, 0x00#8, 0x00#8⟩] ++ headerRows

/-- An instruction's mnemonic in spec/opcode_table.json, letter for letter. -/
def mnemonicOf : Instr → String
  | .read _ => "READ"
  | .getStatusButtons => "GET_STATUS_BUTTONS"
  | .getStatusEncoder => "GET_STATUS_ENCODER"
  | .getStatusQdepth => "GET_STATUS_QDEPTH"
  | .getStatusRsvd _ => "GET_STATUS_RSVD"
  | .setCursor _ => "SET_CURSOR"
  | .lcdWrite _ => "LCD_WRITE"
  | .lcdClear _ => "LCD_CLEAR"
  | .setLeds _ => "SET_LEDS"
  | .beep _ => "BEEP"
  | .rsvd7 _ => "RSVD7"
  | .init => "INIT"
  | .poll => "POLL"
  | .data _ => "DATA"
  | .execNoneOpcode0 _ => "exec_NONE__opcode_0"
  | .execNoneOpcode1 _ => "exec_NONE__opcode_1"
  | .execSetCursor => "exec_SET_CURSOR"
  | .execSetCursorMalformed _ => "exec_SET_CURSOR_malformed"
  | .execLcdWrite _ => "exec_LCD_WRITE"
  | .execLcdWriteMalformed _ => "exec_LCD_WRITE_malformed"
  | .execLcdClear _ => "exec_LCD_CLEAR"
  | .execSetLeds => "exec_SET_LEDS"
  | .execSetLedsMalformed _ => "exec_SET_LEDS_malformed"
  | .execBeep => "exec_BEEP"
  | .execBeepDefault _ => "exec_BEEP_default"
  | .execInit _ => "exec_INIT"

end Sys2Proof
end

