-- ==== Sys2Proof/Machine/Operands.lean ====
section
/-! DEFINITION. The values the block assembles from received bits (30_encoding.md R87 to R94). -/

namespace Sys2Proof.Machine

/-- The header of a frame, packed as the FRAME rows pack it (30_encoding.md R92). -/
def headerOf (f : Frame) : Byte := packFields f.opcode f.length

/-- Payload cell `k` of a frame: the byte stored there; a cell in which nothing was stored holds any value, a free value
(10_state.md R20; U11; log 14). -/
def payloadCell (f : Frame) (k : Nat) : Byte := f.payload.getD k (Config.staleCell f.payload k)

/-- `row = byte >> 5`, 3 bits (30_encoding.md R87). -/
def cursorRow (b : Byte) : BitVec 3 := b.extractLsb' 5 3

/-- `column = byte & 0x1F`, 5 bits (30_encoding.md R87). -/
def cursorColumn (b : Byte) : BitVec 5 := b.extractLsb' 0 5

/-- The beep duration, unscaled (30_encoding.md R91, R94). -/
def beepDuration (p0 : Byte) : Nat := p0.toNat

/-- The beep frequency, 16 bits big-endian, unscaled (20_memory.md R54, 30_encoding.md R91). -/
def beepFrequency (p1 p2 : Byte) : Nat := (p1 ++ p2).toNat

/-- The encoder reply: 16 bits signed to 8 bits (42_status_control.md R163, 30_encoding.md R94). -/
def narrowEncoder (p : Config.EncNarrow) (v : BitVec 16) : Byte :=
  match p with
  | .truncate => v.truncate 8
  | .saturate =>
    if v.toInt < -128 then BitVec.ofInt 8 (-128)
    else if 127 < v.toInt then BitVec.ofInt 8 127
    else v.truncate 8

/-- The queue-depth reply: `zext_8` of a size (30_encoding.md R94). -/
def depthReply (n : SlotIndex) : Byte := n.zeroExtend 8

/-- The count after a movement by `d`: `trunc_16(ENC + d)` (10_state.md R36). -/
def moveCount (v : BitVec 16) (d : Int) : BitVec 16 := BitVec.ofInt 16 (v.toInt + d)

end Sys2Proof.Machine
end

