-- ==== Sys2Proof/Machine/Ops.lean ====
section
/-! DEFINITION. The operations the instructions and steps share. The block takes no exception and returns from none
(60_exceptions.md R220), so no operation does. -/

namespace Sys2Proof.Machine

/-! ## Outputs -/

/-- Emit one output on the reply port or on a peripheral port (42_status_control.md R160, 44_dispatch.md R190). -/
def emit (o : Output) (s : State) : State := { s with trace := s.trace ++ [.output o] }

/-- Emit outputs in order. -/
def emitAll (os : List Output) (s : State) : State := { s with trace := s.trace ++ os.map .output }

/-- `Reply(v)` (42_status_control.md R160). -/
def reply (v : Byte) (s : State) : State := emit (.reply v) s

/-- `Encoder.reset()`: the operation is emitted and the environment's count becomes 0 (44_dispatch.md R190, 10_state.md R36). -/
def encoderReset (s : State) : State := emit .encoderReset { s with enc := 0#16 }

/-! ## The framer (agent RX) -/

/-- The preamble of a command byte: `TOREAD <- len` (41_framing.md R130; log 24). -/
def loadToread (len : Len) (s : State) : State := { s with toread := len }

/-- `Complete()`: push `CUR` unless the ring is full, then test the threshold; `POS <- 0` in either case (41_framing.md R140). -/
def complete (s : State) : Host.Outcome State Fault Refusal :=
  if isFull s then .next { s with pos := 0#6 }
  else andThen (pushBack s.cur s) fun s1 => .next { assertBusy s1 with pos := 0#6 }

/-- `do_FRAME_START(op, len)`, with the preamble before it (41_framing.md R132, R130). -/
def frameStart (op : Opcode) (len : Len) (s : State) : Host.Outcome State Fault Refusal :=
  let s1 := { loadToread len s with cur := ⟨op, len, []⟩ }
  if len = 0#5 then complete s1 else .next { s1 with pos := 1#6 }

/-- The store of a payload byte: only at an offset below `MAX_PAYLOAD`; as a value, the byte is appended (41_framing.md R139,
20_memory.md R52; log 16). -/
def storePayload (b : Byte) (s : State) : State :=
  if (s.pos - 1#6).toNat < Config.maxPayload then
    { s with cur := { s.cur with payload := s.cur.payload ++ [b] } }
  else s

/-- `POS <- POS + 1`, `TOREAD <- TOREAD - 1` (41_framing.md R139). -/
def countPayload (s : State) : State := { s with pos := s.pos + 1#6, toread := s.toread - 1#5 }

/-- `do_DATA(b)`: store, count, and complete when nothing is left to read (41_framing.md R139). -/
def receiveData (b : Byte) (s : State) : Host.Outcome State Fault Refusal :=
  let s1 := countPayload (storePayload b s)
  if s1.toread = 0#5 then complete s1 else .next s1

/-! ## The dispatcher (agent DISP) -/

/-- `DVALID <- 0`: the frame in `DREG` is taken for execution (44_dispatch.md R193; log 24). -/
def takeFrame (s : State) : State := { s with dvalid := false }

/-! ## Reset -/

/-- `Reset()` (70_reset_and_hazards.md R250): the slots, `DREG` and `BTN_IN` are not written (R251, 10_state.md R39). -/
def fullReset (s : State) : State :=
  encoderReset
    { clear { s with pos := 0#6, toread := 0#5, cur := Frame.zero } with
      busy := false, btn := 0#8, dvalid := false }

end Sys2Proof.Machine
end

