-- ==== Sys2Proof/Machine/Dispatcher.lean ====
section
/-! DEFINITION. The frame opcodes (44_dispatch.md R195 to R201). Each meaning is the whole effect of the EXEC step that
performs the frame in `DREG` (log 24); it reads the payload there. -/

namespace Sys2Proof.Machine

/-- A frame of opcode 0 does nothing (R201, D18; log 19). -/
def execNoneOpcode0 (_ : Len) (s : State) : Host.Outcome State Fault Refusal := .next (takeFrame s)

/-- A frame of opcode 1 does nothing (R201, D18; log 19). -/
def execNoneOpcode1 (_ : Len) (s : State) : Host.Outcome State Fault Refusal := .next (takeFrame s)

/-- `SET_CURSOR`, length 1: `Display.setCursor(p0[7:5], p0[4:0])` (R195). -/
def execSetCursor (s : State) : Host.Outcome State Fault Refusal :=
  let p0 := payloadCell s.dreg 0
  .next (emit (.displaySetCursor (cursorRow p0) (cursorColumn p0)) (takeFrame s))

/-- `SET_CURSOR`, any other length: malformed dispatch, ignored (R194, R195). -/
def execSetCursorMalformed (_ : Len) (s : State) : Host.Outcome State Fault Refusal := .next (takeFrame s)

/-- `LCD_WRITE`: `Display.write` of each payload byte, first received first (R196). -/
def execLcdWrite (length : Len) (s : State) : Host.Outcome State Fault Refusal :=
  .next (emitAll ((List.range length.toNat).map fun k => .displayWrite (payloadCell s.dreg k)) (takeFrame s))

/-- `LCD_WRITE`, length outside the contract: ignored (R194, R196). -/
def execLcdWriteMalformed (_ : Len) (s : State) : Host.Outcome State Fault Refusal := .next (takeFrame s)

/-- `LCD_CLEAR`: `Display.clear()` at every length (R197, D14; log 19). -/
def execLcdClear (_ : Len) (s : State) : Host.Outcome State Fault Refusal :=
  .next (emit .displayClear (takeFrame s))

/-- `SET_LEDS`, length 1: `Display.setBacklight(p0)` (R198). -/
def execSetLeds (s : State) : Host.Outcome State Fault Refusal :=
  .next (emit (.displaySetBacklight (payloadCell s.dreg 0)) (takeFrame s))

/-- `SET_LEDS`, any other length: malformed dispatch, ignored (R194, R198). -/
def execSetLedsMalformed (_ : Len) (s : State) : Host.Outcome State Fault Refusal := .next (takeFrame s)

/-- `BEEP`, length 3: duration and big-endian frequency from the payload (R199). -/
def execBeep (s : State) : Host.Outcome State Fault Refusal :=
  let f := s.dreg
  .next (emit (.buzz (beepDuration (payloadCell f 0)) (beepFrequency (payloadCell f 1) (payloadCell f 2))) (takeFrame s))

/-- `BEEP`, any other length: the default duration and frequency (R199, D15; log 13). -/
def execBeepDefault (_ : Len) (s : State) : Host.Outcome State Fault Refusal :=
  .next (emit (.buzz Config.beepDefaultDuration Config.beepDefaultFreq) (takeFrame s))

/-- A frame of opcode 7, any length: `Reset()` (R200, D6; log 19). -/
def execInit (_ : Len) (s : State) : Host.Outcome State Fault Refusal := .next (fullReset (takeFrame s))

end Sys2Proof.Machine
end

