-- ==== Sys2Proof/Machine/Framing.lean ====
section
/-! DEFINITION. The framer's commands: READ, the five framed commands, the reserved bytes of opcode 7 and the payload byte
(41_framing.md R131 to R139). Each meaning is the whole effect of the RX step that receives the byte (log 24). -/

namespace Sys2Proof.Machine

/-- `READ`: no-op (R131). -/
def doRead (len : Len) (s : State) : Host.Outcome State Fault Refusal := .next (loadToread len s)

/-- `SET_CURSOR` on the wire (R133). -/
def doSetCursor (len : Len) (s : State) : Host.Outcome State Fault Refusal := frameStart .setCursor len s

/-- `LCD_WRITE` on the wire (R134). -/
def doLcdWrite (len : Len) (s : State) : Host.Outcome State Fault Refusal := frameStart .lcdWrite len s

/-- `LCD_CLEAR` on the wire (R135). -/
def doLcdClear (len : Len) (s : State) : Host.Outcome State Fault Refusal := frameStart .lcdClear len s

/-- `SET_LEDS` on the wire (R136). -/
def doSetLeds (len : Len) (s : State) : Host.Outcome State Fault Refusal := frameStart .setLeds len s

/-- `BEEP` on the wire (R137). -/
def doBeep (len : Len) (s : State) : Host.Outcome State Fault Refusal := frameStart .beep len s

/-- The reserved bytes of opcode 7 under either policy (R138). -/
def reserved7 (p : Config.Reserved7Policy) (len : Len) (s : State) : Host.Outcome State Fault Refusal :=
  match p with
  | .ignore => .next (loadToread len s)
  | .frame => frameStart .other len s

/-- `RSVD7` at the policy the spec chose (R138, D7). DESIGN CHOICE, unsafe: log 10. -/
def doRsvd7 (len : Len) (s : State) : Host.Outcome State Fault Refusal := reserved7 Config.reserved7Policy len s

/-- `DATA` (R139). -/
def doData (d : Byte) (s : State) : Host.Outcome State Fault Refusal := receiveData d s

end Sys2Proof.Machine
end

