-- ==== Sys2Proof/Machine/Status.lean ====
section
/-! DEFINITION. The immediate commands: GET_STATUS, INIT and POLL (42_status_control.md). Each meaning is the whole effect of
the RX step that receives the byte (log 24). -/

namespace Sys2Proof.Machine

/-- `GET_STATUS BUTTONS`: `Reply(BTN)` (R162). -/
def doGetStatusButtons (s : State) : Host.Outcome State Fault Refusal :=
  .next (reply s.btn (loadToread 0#5 s))

/-- `GET_STATUS ENCODER`: read the count, reset the encoder, reply the narrowed count (R163). -/
def doGetStatusEncoder (s : State) : Host.Outcome State Fault Refusal :=
  .next (reply (narrowEncoder Config.encNarrow s.enc) (encoderReset (loadToread 1#5 s)))

/-- `GET_STATUS QDEPTH`: `Reply(zext_8(Size()))` (R164). -/
def doGetStatusQdepth (s : State) : Host.Outcome State Fault Refusal :=
  .next (reply (depthReply (size s)) (loadToread 2#5 s))

/-- The reserved sub-codes under the policy (R165). -/
def statusReserved (p : Config.StatusRsvdPolicy) (sub : Len) (s : State) : Host.Outcome State Fault Refusal :=
  match p with
  | .ignore => .next (loadToread sub s)

/-- `GET_STATUS` reserved sub-codes at the policy the spec chose (R165, D8). DESIGN CHOICE, unsafe: log 11. -/
def doGetStatusRsvd (sub : Len) (s : State) : Host.Outcome State Fault Refusal :=
  statusReserved Config.statusRsvdPolicy sub s

/-- `INIT`: queue the INIT frame through `Complete()` (R166); it resets nothing now. The `len` bits of the sentinel are 30. -/
def doInit (s : State) : Host.Outcome State Fault Refusal :=
  complete { loadToread 30#5 s with cur := ⟨.other, 0#5, []⟩ }

/-- `POLL`: `BUSY <- 0` if the ring is empty (R167). The `len` bits of the sentinel are 31. -/
def doPoll (s : State) : Host.Outcome State Fault Refusal := .next (deassertBusy (loadToread 31#5 s))

end Sys2Proof.Machine
end

