-- ==== Sys2Proof/Machine/Dispatch.lean ====
section
/-! DEFINITION. One arm per instruction: the meaning of the byte or frame header it stands for. -/

namespace Sys2Proof.Machine

def exec (i : Instr) (s : State) : Host.Outcome State Fault Refusal :=
  match i with
  | .read len => Sys2Proof.Machine.doRead len s
  | .getStatusButtons => Sys2Proof.Machine.doGetStatusButtons s
  | .getStatusEncoder => Sys2Proof.Machine.doGetStatusEncoder s
  | .getStatusQdepth => Sys2Proof.Machine.doGetStatusQdepth s
  | .getStatusRsvd sub => Sys2Proof.Machine.doGetStatusRsvd sub s
  | .setCursor len => Sys2Proof.Machine.doSetCursor len s
  | .lcdWrite len => Sys2Proof.Machine.doLcdWrite len s
  | .lcdClear len => Sys2Proof.Machine.doLcdClear len s
  | .setLeds len => Sys2Proof.Machine.doSetLeds len s
  | .beep len => Sys2Proof.Machine.doBeep len s
  | .rsvd7 len => Sys2Proof.Machine.doRsvd7 len s
  | .init => Sys2Proof.Machine.doInit s
  | .poll => Sys2Proof.Machine.doPoll s
  | .data d => Sys2Proof.Machine.doData d s
  | .execNoneOpcode0 n => Sys2Proof.Machine.execNoneOpcode0 n s
  | .execNoneOpcode1 n => Sys2Proof.Machine.execNoneOpcode1 n s
  | .execSetCursor => Sys2Proof.Machine.execSetCursor s
  | .execSetCursorMalformed n => Sys2Proof.Machine.execSetCursorMalformed n s
  | .execLcdWrite n => Sys2Proof.Machine.execLcdWrite n s
  | .execLcdWriteMalformed n => Sys2Proof.Machine.execLcdWriteMalformed n s
  | .execLcdClear n => Sys2Proof.Machine.execLcdClear n s
  | .execSetLeds => Sys2Proof.Machine.execSetLeds s
  | .execSetLedsMalformed n => Sys2Proof.Machine.execSetLedsMalformed n s
  | .execBeep => Sys2Proof.Machine.execBeep s
  | .execBeepDefault n => Sys2Proof.Machine.execBeepDefault n s
  | .execInit n => Sys2Proof.Machine.execInit n s

end Sys2Proof.Machine
end

