-- ==== Sys2Proof/Machine/Agents.lean ====
section
/-! DEFINITION. The agents' steps (00_scope.md R7): which is enabled, what it does, which instruction it runs, and what a
taken step leaves in the record of the run. -/

namespace Sys2Proof.Machine

/-! ## Fetching -/

/-- The instruction a received byte is: a command while `POS = 0`, else a payload byte (41_framing.md R130, 20_memory.md R67). -/
def fetchByte (b : Byte) (s : State) : Instr :=
  if s.pos = 0#6 then decode .command b else decode .payload b

/-- The instruction the frame in `DREG` is (44_dispatch.md R193). -/
def fetchFrame (s : State) : Instr := decode .frameHeader (headerOf s.dreg)

/-! ## The steps that run no instruction -/

/-- `POP`: `DREG <- PopFront()`, `DVALID <- 1` (44_dispatch.md R192). -/
def popStep (s : State) : Host.Outcome State Fault Refusal :=
  andThen (popFront s) fun p => .next { p.2 with dreg := p.1, dvalid := true }

/-- `REFRESH`: `BTN <- BTN_IN` (44_dispatch.md R204). -/
def refreshStep (s : State) : State := { s with btn := s.btnIn }

/-- `EncMove(d)` (10_state.md R36). -/
def encMoveStep (d : Int) (s : State) : State := { s with enc := moveCount s.enc d }

/-- `BtnChange(m)` (10_state.md R36). -/
def btnChangeStep (m : Byte) (s : State) : State := { s with btnIn := m }

/-! ## Steps -/

/-- Whether the step may be taken (00_scope.md R7, 44_dispatch.md R192, R193). -/
def enabled (e : Event) (s : State) : Bool :=
  match e with
  | .rx _ => true
  | .pop => !s.dvalid && !isEmpty s
  | .exec => s.dvalid
  | .refresh => true
  | .encMove _ => true
  | .btnChange _ => true
  | .rst => true

/-- The effect of an enabled step. -/
def agentStep (e : Event) (s : State) : Host.Outcome State Fault Refusal :=
  match e with
  | .rx b => exec (fetchByte b s) s
  | .pop => popStep s
  | .exec => exec (fetchFrame s) s
  | .refresh => .next (refreshStep s)
  | .encMove d => .next (encMoveStep d s)
  | .btnChange m => .next (btnChangeStep m s)
  | .rst => .next (fullReset s)

/-- Take the next entry off the script. -/
def withScript (rest : List Event) (s : State) : State := { s with script := rest }

/-- Record that a step is taken (00_scope.md R8; log 5). -/
def recordStep (e : Event) (s : State) : State := { s with trace := s.trace ++ [.took e] }

/-- Record the level the step leaves on the `busy` output (00_scope.md R8 (a), 43_flow_control.md R183; log 5). -/
def recordBusy (s : State) : State := { s with trace := s.trace ++ [.busyLevel s.busy] }

/-- One scripted step: taken and recorded if it is enabled; otherwise no agent moves and the entry is passed over (log 2). -/
def runEvent (e : Event) (s : State) : Host.Outcome State Fault Refusal :=
  if enabled e s then andThen (agentStep e (recordStep e s)) fun s1 => .next (recordBusy s1)
  else .next s

/-- The next entry of the script, if there is one; with none, no agent moves (log 2). -/
def runScript (s : State) : Host.Outcome State Fault Refusal :=
  match s.script with
  | [] => .next s
  | e :: rest => runEvent e (withScript rest s)

/-- The state in which the master is about to present `b` to a decoder in AwaitingOpcode (log 3). -/
def presentCommand (b : Byte) (s : State) : State := { s with pos := 0#6, script := .rx b :: s.script }

end Sys2Proof.Machine
end

