-- ==== Sys2Proof/Machine/Step.lean ====
section
/-! DEFINITION. One step of the machine, and where the step finds its next instruction. -/

namespace Sys2Proof.Machine

/-- One step: the next entry of the script (00_scope.md R7, 20_memory.md R61; log 1). -/
def step (s : State) : Host.Outcome State Fault Refusal := runScript s

/-- `s` with the opcode-table word as the command byte the master presents next (log 3): the step takes its next
instruction from the head of the script, and decodes it as a command because `POS = 0`. -/
def State.withFetchWord (s : State) (nbits w : Nat) : State :=
  match wordBytes nbits w with
  | [] => s
  | b :: _ => presentCommand b s

end Sys2Proof.Machine
end

