-- ==== Sys2Proof/Safety.lean ====
section
/-! DEFINITION. What a legal state of the block is, the queue as a list, and what a step shows: the terms claims use. -/

namespace Sys2Proof.Machine

/-! ## The queue -/

/-- The live frames, oldest first: `SLOT[TAIL]`, ..., `SLOT[(HEAD-1) mod N_SLOTS]` (10_state.md R30). -/
def liveFrames (s : State) : List Frame :=
  (List.range (size s).toNat).map fun k => slotRead s (s.tail + BitVec.ofNat 5 k)

/-- The state after a frame completes, written out index by index (41_framing.md R140): dropped when the slot after `HEAD` is
`TAIL`, else stored at `HEAD`, with `BUSY` set when 22 or more frames are then queued. -/
def completionOf (s : State) : State :=
  if s.head + 1#5 = s.tail then { s with pos := 0#6 }
  else
    { s with
      pos := 0#6
      slots := s.slots.set s.head.toNat s.cur s.head.isLt
      head := s.head + 1#5
      busy := s.busy || decide (22 ≤ (s.head + 1#5 - s.tail).toNat) }

/-! ## Legal states -/

/-- The opcodes of the framed commands, 2..6 (30_encoding.md R83). -/
def isFramed : Opcode → Bool
  | .read => false
  | .getStatus => false
  | .setCursor => true
  | .lcdWrite => true
  | .lcdClear => true
  | .setLeds => true
  | .beep => true
  | .other => false

/-- `payload.size() == min(length, MAX_PAYLOAD)` (00_scope.md R12). -/
abbrev SizedFrame (f : Frame) : Prop := f.payload.length = min f.length.toNat Config.maxPayload

/-- A frame the framer queues: framed, or the INIT frame (10_state.md R30). -/
abbrev QueueableFrame (f : Frame) : Prop :=
  SizedFrame f ∧ (isFramed f.opcode = true ∨ (f.opcode = .other ∧ f.length = 0#5))

/-- The bytes by which the master sends a frame: the INIT byte for the INIT frame, else the command byte and then the payload
(30_encoding.md R82, 42_status_control.md R166). -/
def wireBytes (f : Frame) : List Byte :=
  if f.opcode = .other then [Config.initByte] else packFields f.opcode f.length :: f.payload

/-- The invariant of the decoder state (10_state.md R26). -/
abbrev DecoderInv (s : State) : Prop :=
  s.pos = 0#6 ∨
    (1 ≤ s.pos.toNat ∧ s.pos.toNat ≤ 31 ∧ 1 ≤ s.toread.toNat ∧ isFramed s.cur.opcode = true ∧
      (s.pos.toNat - 1) + s.toread.toNat = s.cur.length.toNat ∧
      s.cur.payload.length = min (s.pos.toNat - 1) Config.maxPayload)

/-- Every live frame is one the framer queues (10_state.md R30). -/
abbrev RingInv (s : State) : Prop := ∀ f ∈ liveFrames s, QueueableFrame f

/-- `Size() >= BUSY_THRESHOLD` implies `BUSY = 1` (43_flow_control.md R184). -/
abbrev BusyInv (s : State) : Prop := Config.busyThreshold ≤ (size s).toNat → s.busy = true

/-- A frame held for execution is one the framer queued (10_state.md R30, R34). -/
abbrev DregInv (s : State) : Prop := s.dvalid = true → QueueableFrame s.dreg

/-- The invariants of the block together. -/
abbrev Inv (s : State) : Prop := DecoderInv s ∧ RingInv s ∧ BusyInv s ∧ DregInv s

/-! ## What a step shows -/

/-- The output an entry of the record holds, if it holds one. -/
def obsOutput : Obs → Option Output
  | .took _ => none
  | .output o => some o
  | .busyLevel _ => none

/-- The outputs emitted between a state and a later one, in order (00_scope.md R8 (b), (c)). -/
def outputsBetween (s t : State) : List Output := (t.trace.drop s.trace.length).filterMap obsOutput

/-- The step is the execution of an INIT frame or the `rst` input: the two ways `Reset()` runs (70_reset_and_hazards.md R250). -/
def isResetStep (e : Event) (s : State) : Bool :=
  match e with
  | .rx _ => false
  | .pop => false
  | .exec => s.dvalid && s.dreg.opcode == .other
  | .refresh => false
  | .encMove _ => false
  | .btnChange _ => false
  | .rst => true

/-- The agent `RX` takes the step. -/
def isReceive : Event → Bool
  | .rx _ => true
  | .pop => false
  | .exec => false
  | .refresh => false
  | .encMove _ => false
  | .btnChange _ => false
  | .rst => false

/-- The agent `ENV` takes the step. -/
def isEnvironment : Event → Bool
  | .rx _ => false
  | .pop => false
  | .exec => false
  | .refresh => false
  | .encMove _ => true
  | .btnChange _ => true
  | .rst => false

/-- The headers to which the dispatcher gives no operation, malformed dispatch (60_exceptions.md R223). -/
def isMalformed (op : Opcode) (length : Len) : Bool :=
  match op with
  | .read => true
  | .getStatus => true
  | .setCursor => decide (length.toNat ≠ 1)
  | .lcdWrite => decide (length.toNat = 0)
  | .lcdClear => false
  | .setLeds => decide (length.toNat ≠ 1)
  | .beep => false
  | .other => false

end Sys2Proof.Machine
end

