-- ==== Sys2Proof/Certificates/Slice0/Obligations.lean ====
section
/-! DEFINITION. The statements for the provers. A docstring names the rule of spec/ a statement formalises, or says that it
rests on a choice and names the log entry or the spec's decision. -/

open Sys2Proof Sys2Proof.Machine

/-! ## Encoding -/

/-- R81: the opcode field is `b >> 5`, the length field `b & 0x1F`, both unsigned, and the byte is `opcode * 32 + len`. -/
def Obligations.CommandByteFieldsAndPacking : Prop :=
  (∀ b : Byte, (opcodeField b).toNat = b.toNat / 32 ∧ (lenField b).toNat = b.toNat % 32) ∧
  ∀ (op : Opcode) (len : Len), (packFields op len).toNat = (opcodeBits op).toNat * 32 + len.toNat

/-- Words written out from the spec's encodings decode to the instructions they stand for (30_encoding.md sections 3, 5, 6). -/
def Obligations.SampleWordsDecode : Prop :=
  decode .command 0b000_11111#8 = .read 31#5 ∧
  decode .command 0b001_00001#8 = .getStatusEncoder ∧
  decode .command 0b001_00011#8 = .getStatusRsvd 3#5 ∧
  decode .command 0b011_00011#8 = .lcdWrite 3#5 ∧
  decode .command 0b111_11101#8 = .rsvd7 29#5 ∧
  decode .command 0b111_11110#8 = .init ∧
  decode .command 0b111_11111#8 = .poll ∧
  decode .payload 0b111_11111#8 = .data 0xFF#8 ∧
  decode .frameHeader 0b010_00001#8 = .execSetCursor ∧
  decode .frameHeader 0b110_00011#8 = .execBeep ∧
  decode .frameHeader 0b111_00000#8 = .execInit 0#5

/-- Decode and encode agree: every well-formed instruction, with every operand its encoding admits, is read back. -/
def Obligations.DecodeOfEncodeIsTheInstruction : Prop :=
  ∀ i : Instr, i.wellFormed = true → decode (formatOf i) (encode i) = i

/-- Every byte of every format decodes to a well-formed instruction of that format, whose encoding is that byte: no encoding
is illegal, and none falls through to a neighbour (R86). -/
def Obligations.EncodeOfDecodeIsTheByte : Prop :=
  ∀ (fmt : Format) (b : Byte),
    (decode fmt b).wellFormed = true ∧ formatOf (decode fmt b) = fmt ∧ encode (decode fmt b) = b

/-- Every byte of a format is covered by exactly one row of the opcode table of that format, and the row's mnemonic is that of
the instruction the decoder reads (30_encoding.md sections 3 and 6). -/
def Obligations.TableRowsCoverEachByteOnce : Prop :=
  ∀ (fmt : Format) (b : Byte),
    (opcodeTable.filter fun r => r.format == fmt && r.covers b).map TableRow.mnemonic = [mnemonicOf (decode fmt b)]

/-- R87 and the beep frequency of R54: `row = byte >> 5`, `column = byte & 0x1F`, frequency big-endian. -/
def Obligations.OperandsAssembleFromBytes : Prop :=
  (∀ b : Byte, (cursorRow b).toNat = b.toNat / 32 ∧ (cursorColumn b).toNat = b.toNat % 32) ∧
  (∀ p1 p2 : Byte, beepFrequency p1 p2 = p1.toNat * 256 + p2.toNat) ∧
  ∀ n : BitVec 5, (depthReply n).toNat = n.toNat

/-- Both named values of `ENC_NARROW` give the count itself as a signed byte when it lies in `-128..127`; outside, truncation
gives the low 8 bits and saturation the nearer end (the spec's decision D10, log 12). -/
def Obligations.EncoderNarrowingUnderBothPolicies : Prop :=
  (∀ (p : Config.EncNarrow) (v : BitVec 16), -128 ≤ v.toInt → v.toInt ≤ 127 → (narrowEncoder p v).toInt = v.toInt) ∧
  (∀ v : BitVec 16, (narrowEncoder .truncate v).toNat = v.toNat % 256) ∧
  (∀ v : BitVec 16, 127 < v.toInt → (narrowEncoder .saturate v).toInt = 127) ∧
  ∀ v : BitVec 16, v.toInt < -128 → (narrowEncoder .saturate v).toInt = -128

/-! ## The command bytes -/

/-- R131: READ of any length writes `TOREAD` and nothing else; its byte in mid-frame is payload. -/
def Obligations.ReadIsANoOp : Prop :=
  ∀ (len : Len) (s : State),
    exec (.read len) s = .next { s with toread := len } ∧
    (s.pos = 0#6 → fetchByte (packFields .read len) s = .read len) ∧
    (s.pos ≠ 0#6 → fetchByte (packFields .read len) s = .data (packFields .read len))

/-- R162: GET_STATUS BUTTONS replies the mirror and leaves everything but `TOREAD` as it was (R130's preamble writes that). -/
def Obligations.StatusButtonsRepliesTheMirror : Prop :=
  decode .command 0x20#8 = .getStatusButtons ∧
  ∀ s : State, exec .getStatusButtons s =
    .next { s with toread := 0#5, trace := s.trace ++ [.output (.reply s.btn)] }

/-- GET_STATUS ENCODER emits `Encoder.reset`, zeroes the count, and replies its low 8 bits, the policy value TRUNCATE being
the spec's decision D10 (log 12); 42_status_control.md section 2. -/
def Obligations.StatusEncoderRepliesAndZeroes : Prop :=
  decode .command 0x21#8 = .getStatusEncoder ∧
  ∀ s : State, exec .getStatusEncoder s =
    .next { s with
      toread := 1#5
      enc := 0#16
      trace := s.trace ++ [.output .encoderReset, .output (.reply (BitVec.ofNat 8 (s.enc.toNat % 256)))] }

/-- R164: GET_STATUS QDEPTH replies the number of frames queued, in `0..31`, and leaves everything but `TOREAD` as it was. -/
def Obligations.StatusQdepthRepliesTheSize : Prop :=
  decode .command 0x22#8 = .getStatusQdepth ∧
  ∀ s : State, ∃ v : Byte, v.toNat = (liveFrames s).length ∧ v.toNat ≤ 31 ∧
    exec .getStatusQdepth s = .next { s with toread := 2#5, trace := s.trace ++ [.output (.reply v)] }

/-- The reserved sub-codes and the reserved bytes of opcode 7 write `TOREAD` and nothing else: the spec's decisions D8 and D7
(logs 11 and 10). -/
def Obligations.ReservedCommandsAreIgnored : Prop :=
  ∀ (len : Len) (s : State),
    exec (.getStatusRsvd len) s = .next { s with toread := len } ∧
    exec (.rsvd7 len) s = .next { s with toread := len }

/-- Under the policy value FRAME a reserved byte of opcode 7 would start a frame of opcode 7 (the alternative named in
41_framing.md section 4, not chosen; log 10). -/
def Obligations.ReservedSevenUnderTheOtherPolicy : Prop :=
  ∀ (len : Len) (s : State), len ≠ 0#5 →
    reserved7 .frame len s = .next { s with toread := len, cur := ⟨.other, len, []⟩, pos := 1#6 }

/-- Frame start, for each of the five framed commands: a length of 0 completes the frame in the same step, any other length records
opcode and length, empties the payload and moves to AccumulatingPayload. Completion in its turn tests `>=` for `BUSY`, the
spec's decision D4 (log 26; 41_framing.md sections 1, 3 and 6). -/
def Obligations.FramedCommandsStartAFrame : Prop :=
  ∀ (len : Len) (s : State) (i : Instr) (op : Opcode),
    (i, op) ∈ [(Instr.setCursor len, Opcode.setCursor), (.lcdWrite len, .lcdWrite), (.lcdClear len, .lcdClear),
      (.setLeds len, .setLeds), (.beep len, .beep)] →
    decode .command (packFields op len) = i ∧
    (len ≠ 0#5 → exec i s = .next { s with toread := len, cur := ⟨op, len, []⟩, pos := 1#6 }) ∧
    (len = 0#5 → exec i s = .next (completionOf { s with toread := len, cur := ⟨op, len, []⟩ }))

/-- INIT queues the frame of opcode 7, length 0 and no payload through completion, and resets nothing: the spec's decisions
D5 and D6 (log 26); 42_status_control.md section 3. -/
def Obligations.InitQueuesTheInitFrame : Prop :=
  decode .command 0xFE#8 = .init ∧
  ∀ s : State, exec .init s = .next (completionOf { s with toread := 30#5, cur := ⟨.other, 0#5, []⟩ })

/-- POLL lowers `BUSY` when the ring is empty, and otherwise leaves it; it replies nothing (the spec's decision D9) and
touches neither the ring nor `CUR`; 42_status_control.md section 4. -/
def Obligations.PollLowersBusyOnAnEmptyRing : Prop :=
  decode .command 0xFF#8 = .poll ∧
  ∀ s : State,
    (s.head = s.tail → exec .poll s = .next { s with toread := 31#5, busy := false }) ∧
    (s.head ≠ s.tail → exec .poll s = .next { s with toread := 31#5 })

/-- A payload byte, whatever its value, is stored if its offset is below `MAX_PAYLOAD`, counted in any case, and completes the
frame when it is the last one expected (41_framing.md sections 5 and 6). The busy test of the completion is the spec's decision
D4 (log 26); outside the decoder's invariant, where the spec says nothing, that the store appends and that `POS` and `TOREAD`
wrap are the model's (logs 16 and 23). -/
def Obligations.DataIsStoredAndCounted : Prop :=
  ∀ (d : Byte) (s : State), s.pos ≠ 0#6 →
    fetchByte d s = .data d ∧
    ∃ u : State,
      u = { s with
        cur := { s.cur with payload := if s.pos.toNat - 1 < 32 then s.cur.payload ++ [d] else s.cur.payload }
        pos := s.pos + 1#6
        toread := s.toread - 1#5 } ∧
      (s.toread ≠ 1#5 → exec (.data d) s = .next u) ∧
      (s.toread = 1#5 → exec (.data d) s = .next (completionOf u))

/-- R140: completion drops the frame when the ring is full and otherwise appends it to the queue; the decoder returns to
AwaitingOpcode in both cases, and `BUSY` rises exactly when the queue then holds at least 22 frames (the comparison `>=` is the
spec's decision D4, log 26). -/
def Obligations.CompletionAppendsOrDrops : Prop :=
  ∀ s : State,
    (isFull s = true → complete s = .next { s with pos := 0#6 }) ∧
    (isFull s = false → ∃ t : State,
      complete s = .next t ∧
      liveFrames t = liveFrames s ++ [s.cur] ∧
      t = { s with pos := 0#6, slots := t.slots, head := s.head + 1#5,
                   busy := s.busy || decide (22 ≤ (liveFrames t).length) } ∧
      slotRead t s.head = s.cur ∧
      ∀ j : SlotIndex, j ≠ s.head → slotRead t j = slotRead s j)

/-! ## The frame opcodes -/

/-- R195: a SET_CURSOR frame of length 1 sets row and column of its byte; every other length does nothing but take the
frame. -/
def Obligations.SetCursorFrameSetsTheCursor : Prop :=
  (∀ n : Len, decode .frameHeader (packFields .setCursor n) =
    if n = 1#5 then .execSetCursor else .execSetCursorMalformed n) ∧
  (∀ (s : State) (p0 : Byte) (rest : List Byte), s.dreg.payload = p0 :: rest →
    exec .execSetCursor s = .next { s with
      dvalid := false
      trace := s.trace ++ [.output (.displaySetCursor (BitVec.ofNat 3 (p0.toNat / 32)) (BitVec.ofNat 5 (p0.toNat % 32)))] }) ∧
  ∀ (n : Len) (s : State), exec (.execSetCursorMalformed n) s = .next { s with dvalid := false }

/-- R196: an LCD_WRITE frame of length `n > 0` writes its `n` payload bytes in order; length 0 does nothing. -/
def Obligations.LcdWriteFrameWritesItsBytes : Prop :=
  (∀ n : Len, decode .frameHeader (packFields .lcdWrite n) =
    if 0 < n.toNat ∧ n.toNat ≤ 32 then .execLcdWrite n else .execLcdWriteMalformed n) ∧
  (∀ (n : Len) (s : State), s.dreg.payload.length = n.toNat →
    exec (.execLcdWrite n) s = .next { s with
      dvalid := false
      trace := s.trace ++ s.dreg.payload.map fun c => .output (.displayWrite c) }) ∧
  ∀ (n : Len) (s : State), exec (.execLcdWriteMalformed n) s = .next { s with dvalid := false }

/-- An LCD_CLEAR frame clears the display at every length (the spec's decision D14, log 19); 44_dispatch.md section 3. -/
def Obligations.LcdClearFrameClears : Prop :=
  ∀ (n : Len) (s : State),
    decode .frameHeader (packFields .lcdClear n) = .execLcdClear n ∧
    exec (.execLcdClear n) s = .next { s with dvalid := false, trace := s.trace ++ [.output .displayClear] }

/-- R198: a SET_LEDS frame of length 1 sets the mask to its byte; every other length does nothing. -/
def Obligations.SetLedsFrameSetsTheMask : Prop :=
  (∀ n : Len, decode .frameHeader (packFields .setLeds n) =
    if n = 1#5 then .execSetLeds else .execSetLedsMalformed n) ∧
  (∀ (s : State) (p0 : Byte) (rest : List Byte), s.dreg.payload = p0 :: rest →
    exec .execSetLeds s = .next { s with
      dvalid := false
      trace := s.trace ++ [.output (.displaySetBacklight p0)] }) ∧
  ∀ (n : Len) (s : State), exec (.execSetLedsMalformed n) s = .next { s with dvalid := false }

/-- A BEEP frame of length 3 sounds its duration and big-endian frequency unscaled (the spec's decision D16), every other
length the two open defaults (D15, log 13), whatever they are; 44_dispatch.md section 3. -/
def Obligations.BeepFrameBuzzes : Prop :=
  (∀ n : Len, decode .frameHeader (packFields .beep n) = if n = 3#5 then .execBeep else .execBeepDefault n) ∧
  (∀ (s : State) (p0 p1 p2 : Byte) (rest : List Byte), s.dreg.payload = p0 :: p1 :: p2 :: rest →
    exec .execBeep s = .next { s with
      dvalid := false
      trace := s.trace ++ [.output (.buzz p0.toNat (p1.toNat * 256 + p2.toNat))] }) ∧
  ∀ (n : Len) (s : State), exec (.execBeepDefault n) s = .next { s with
    dvalid := false
    trace := s.trace ++ [.output (.buzz Config.beepDefaultDuration Config.beepDefaultFreq)] }

/-- Frames of opcode 0 and 1 do nothing but leave `DREG` (the spec's decision D18, log 19); 44_dispatch.md section 3. -/
def Obligations.FramesOfOpcodeZeroAndOneDoNothing : Prop :=
  ∀ (n : Len) (s : State),
    exec (.execNoneOpcode0 n) s = .next { s with dvalid := false } ∧
    exec (.execNoneOpcode1 n) s = .next { s with dvalid := false }

/-- An INIT frame of any length runs the full reset: every register of the block and the encoder's count take the values of
10_state.md section 11 (decisions D6, D11, D12, D17, D19; logs 9 and 19), `Encoder.reset` is emitted and nothing else; slots,
`DREG` and `BTN_IN` stay. -/
def Obligations.InitFrameResetsTheBlock : Prop :=
  ∀ (n : Len) (s : State),
    decode .frameHeader (packFields .other n) = .execInit n ∧
    exec (.execInit n) s = .next
      { pos := 0#6, toread := 0#5, cur := ⟨.read, 0#5, []⟩, slots := s.slots, head := 0#5, tail := 0#5,
        busy := false, btn := 0#8, dreg := s.dreg, dvalid := false, enc := 0#16, btnIn := s.btnIn,
        script := s.script, trace := s.trace ++ [.output .encoderReset] }

/-! ## The ring -/

/-- R110: `Size() = (HEAD - TAIL) mod 32`, and it is the number of live frames. -/
def Obligations.SizeIsTheIndexDifference : Prop :=
  ∀ s : State, ((size s).toNat : Int) = ((s.head.toNat : Int) - (s.tail.toNat : Int)) % 32 ∧
    (liveFrames s).length = (size s).toNat

/-- R111 and R112: empty means equal indices, that is size 0; full means `(HEAD + 1) & 31 = TAIL`, that is size 31. -/
def Obligations.EmptyAndFullInTermsOfSize : Prop :=
  ∀ s : State,
    (isEmpty s = true ↔ s.head = s.tail) ∧
    (isEmpty s = true ↔ (size s).toNat = 0) ∧
    (isFull s = true ↔ (s.head.toNat + 1) &&& 31 = s.tail.toNat) ∧
    (isFull s = true ↔ (size s).toNat = 31)

/-- A push on a full ring and a pop on an empty ring have no meaning and are refused (the spec's decision D24, log 15); a push
with room appends to the queue, a pop of a queue that is not empty removes and answers the oldest frame;
40_ringbuffer.md sections 2 and 3. -/
def Obligations.PushAppendsAndPopRemovesTheOldest : Prop :=
  (∀ (f : Frame) (s : State), isFull s = true → pushBack f s = .refused .pushBackOnFullRing) ∧
  (∀ s : State, isEmpty s = true → popFront s = .refused .popFrontOnEmptyRing) ∧
  (∀ (f : Frame) (s : State), isFull s = false →
    ∃ t, pushBack f s = .next t ∧ liveFrames t = liveFrames s ++ [f] ∧ t.tail = s.tail) ∧
  (∀ s : State, isEmpty s = false →
    ∃ f t, popFront s = .next (f, t) ∧ liveFrames s = f :: liveFrames t ∧ t = { s with tail := t.tail })

/-- R115: `Clear()` zeroes both indices and writes nothing else; the size is then 0. -/
def Obligations.ClearEmptiesTheRing : Prop :=
  ∀ s : State, clear s = { s with head := 0#5, tail := 0#5 } ∧ size (clear s) = 0#5 ∧ liveFrames (clear s) = []

/-! ## Reset -/

/-- The state after power-on: the registers at the values of 10_state.md section 11 (decisions D2, D11, D12, D17, D19; log 9),
an empty queue, the decoder in AwaitingOpcode; the model's own choices (slots, `DREG`, `BTN_IN`, logs 6 to 8) are not
spoken of. -/
def Obligations.PowerOnStateIsTheResetState : Prop :=
  State.reset.pos = 0#6 ∧ State.reset.toread = 0#5 ∧ State.reset.cur = ⟨.read, 0#5, []⟩ ∧
  State.reset.head = 0#5 ∧ State.reset.tail = 0#5 ∧ State.reset.busy = false ∧ State.reset.btn = 0#8 ∧
  State.reset.dvalid = false ∧ State.reset.enc = 0#16 ∧ liveFrames State.reset = [] ∧
  ∀ s : State, fullReset s = { State.reset with
    slots := s.slots, dreg := s.dreg, btnIn := s.btnIn, script := s.script,
    trace := s.trace ++ [.output .encoderReset] }

/-- The state after power-on satisfies the invariant of the block. -/
def Obligations.ResetStateSatisfiesTheInvariant : Prop := Inv State.reset

/-! ## Steps -/

/-- A step runs the decoded instruction: with a received byte next in the script, the step is exec of the instruction the byte
is in the present decoder state; with an execution next and a frame in `DREG`, exec of the instruction its header is. Around
exec the step takes the entry off the script, records it, and records the level of `busy` after it: the script and the record
are the model's own (logs 1 and 5). -/
def Obligations.StepRunsTheDecodedInstruction : Prop :=
  (∀ (s : State) (b : Byte) (rest : List Event), s.script = .rx b :: rest →
    step s = andThen
      (exec (decode (if s.pos = 0#6 then .command else .payload) b) (recordStep (.rx b) (withScript rest s)))
      (fun t => .next (recordBusy t))) ∧
  (∀ (s : State) (rest : List Event), s.script = .exec :: rest → s.dvalid = true →
    step s = andThen
      (exec (decode .frameHeader (packFields s.dreg.opcode s.dreg.length)) (recordStep .exec (withScript rest s)))
      (fun t => .next (recordBusy t)))

/-- The opcode-table word is run by the very next step as the command it decodes to (the model's convention, logs 3 and 4). -/
def Obligations.FetchWordIsRunNext : Prop :=
  ∀ (s : State) (w : Nat), ∃ i : Instr,
    decodeTableWord 8 w = some i ∧ i.wellFormed = true ∧
    step (s.withFetchWord 8 w) =
      andThen (exec i (recordStep (.rx (BitVec.ofNat 8 w)) { s with pos := 0#6 })) (fun t => .next (recordBusy t))

/-- `POP`, `REFRESH` and the environment's steps, as single steps of the machine: the oldest frame moves to `DREG` (the split
from execution is the spec's decision D2), the mirror takes the buttons, the count moves modulo 2^16 (decision D26, log 18),
the buttons change; 44_dispatch.md sections 2 and 4, 10_state.md section 8. -/
def Obligations.PopRefreshAndEnvironmentSteps : Prop :=
  ∀ (s : State) (rest : List Event),
    (s.script = .pop :: rest → s.dvalid = false → s.head ≠ s.tail →
      step s = .next { s with
        script := rest, tail := s.tail + 1#5, dreg := slotRead s s.tail, dvalid := true,
        trace := s.trace ++ [.took .pop, .busyLevel s.busy] }) ∧
    (s.script = .refresh :: rest →
      step s = .next { s with
        script := rest, btn := s.btnIn, trace := s.trace ++ [.took .refresh, .busyLevel s.busy] }) ∧
    (∀ d : Int, s.script = .encMove d :: rest →
      ∃ v : BitVec 16, v.toInt = Int.bmod (s.enc.toInt + d) 65536 ∧
        step s = .next { s with
          script := rest, enc := v, trace := s.trace ++ [.took (.encMove d), .busyLevel s.busy] }) ∧
    (∀ m : Byte, s.script = .btnChange m :: rest →
      step s = .next { s with
        script := rest, btnIn := m, trace := s.trace ++ [.took (.btnChange m), .busyLevel s.busy] }) ∧
    (s.script = .rst :: rest →
      step s = .next (recordBusy (fullReset (recordStep .rst { s with script := rest }))))

/-- A step that is not enabled is not taken, and an empty script moves nothing (the model's convention, log 2). -/
def Obligations.DisabledStepsAreNotTaken : Prop :=
  (∀ s : State, s.script = [] → step s = .next s) ∧
  (∀ (s : State) (rest : List Event), s.script = .pop :: rest → (s.dvalid = true ∨ s.head = s.tail) →
    step s = .next { s with script := rest }) ∧
  (∀ (s : State) (rest : List Event), s.script = .exec :: rest → s.dvalid = false →
    step s = .next { s with script := rest })

/-- R220: there is no fault, every enabled step succeeds, and the machine goes on from every state under every schedule. -/
def Obligations.EveryStepSucceeds : Prop :=
  (Fault → False) ∧
  (∀ (i : Instr) (s : State), ∃ t, exec i s = .next t) ∧
  (∀ (e : Event) (s : State), enabled e s = true → ∃ t, agentStep e s = .next t) ∧
  ∀ s : State, ∃ t, step s = .next t

/-! ## Invariants -/

/-- The invariants of the decoder, the ring, the flag and `DREG` (10_state.md R26, R30, 43_flow_control.md R184), together kept
by every step of every agent. Its clauses on the decoder and the ring rest on the spec's decision D7, RESERVED7_POLICY = IGNORE
(log 10): under FRAME a frame of opcode 7 with a payload could be queued. The INIT frame's shape is D6 (log 26). -/
def Obligations.EveryStepKeepsTheInvariant : Prop :=
  ∀ s t : State, Inv s → step s = .next t → Inv t

/-- `Size() >= 22` implies `BUSY = 1` is kept by every step on its own, whatever the decoder and `DREG` hold
(43_flow_control.md section 3). -/
def Obligations.EveryStepKeepsBusyOnALongQueue : Prop :=
  ∀ s t : State, BusyInv s → step s = .next t → BusyInv t

/-! ## Whole-machine rules -/

/-- R38: the receiver alone writes the decoder, `HEAD`, the slots and `BUSY`; the consumer alone writes `TAIL`, `DREG`,
`DVALID` and `BTN`; the environment writes its own two values; the reset is the one step that writes both sides, with the
values of 10_state.md section 11 (the spec's decisions D2, D11, D12, D17; log 9). -/
def Obligations.AgentsWriteOnlyTheirOwnState : Prop :=
  ∀ (s t : State) (e : Event) (rest : List Event), s.script = e :: rest → step s = .next t →
    (isReceive e = true →
      t.tail = s.tail ∧ t.dreg = s.dreg ∧ t.dvalid = s.dvalid ∧ t.btn = s.btn ∧ t.btnIn = s.btnIn) ∧
    (isReceive e = false → isResetStep e s = false →
      t.pos = s.pos ∧ t.toread = s.toread ∧ t.cur = s.cur ∧ t.head = s.head ∧ t.slots = s.slots ∧ t.busy = s.busy) ∧
    (isEnvironment e = true → t.tail = s.tail ∧ t.dreg = s.dreg ∧ t.dvalid = s.dvalid ∧ t.btn = s.btn) ∧
    (isReceive e = false → isEnvironment e = false → isResetStep e s = false → t.enc = s.enc ∧ t.btnIn = s.btnIn) ∧
    (isResetStep e s = true →
      t.pos = 0#6 ∧ t.toread = 0#5 ∧ t.cur = ⟨.read, 0#5, []⟩ ∧ t.head = 0#5 ∧ t.tail = 0#5 ∧ t.busy = false ∧
      t.btn = 0#8 ∧ t.dvalid = false ∧ t.slots = s.slots ∧ t.dreg = s.dreg)

/-- `BUSY` falls only in a step that receives a POLL byte between frames with the ring empty, or in a reset, after which
the ring is empty; and such a POLL always leaves it low (43_flow_control.md section 1). That a reset lowers it is the spec's
decision D12 (log 9); that the `rst` input may come between any two steps is log 17. -/
def Obligations.BusyFallsOnlyOnPollOrReset : Prop :=
  (∀ s t : State, step s = .next t → s.busy = true → t.busy = false →
    ∃ (e : Event) (rest : List Event), s.script = e :: rest ∧
      ((e = .rx 0xFF#8 ∧ s.pos = 0#6 ∧ s.head = s.tail) ∨ (isResetStep e s = true ∧ size t = 0#5))) ∧
  ∀ (s : State) (rest : List Event), s.script = .rx 0xFF#8 :: rest → s.pos = 0#6 → s.head = s.tail →
    ∃ t, step s = .next t ∧ t.busy = false

/-- `BUSY` rises only in a step that receives a byte and queues a frame, and only when at least 22 frames are then queued
(43_flow_control.md section 1; the comparison is the spec's decision D4). -/
def Obligations.BusyRisesOnlyAtTheThreshold : Prop :=
  ∀ s t : State, step s = .next t → s.busy = false → t.busy = true →
    ∃ (b : Byte) (rest : List Event), s.script = .rx b :: rest ∧
      22 ≤ (liveFrames t).length ∧ ∃ f : Frame, liveFrames t = liveFrames s ++ [f]

/-- The queue is first in, first out (20_memory.md section 6): a step leaves it as it is, or appends one frame (a receive with
room), or removes the oldest into `DREG` (a pop), or empties it (a reset). -/
def Obligations.QueueIsFirstInFirstOut : Prop :=
  ∀ s t : State, step s = .next t →
    liveFrames t = liveFrames s ∨
    (∃ (b : Byte) (rest : List Event) (f : Frame),
      s.script = .rx b :: rest ∧ isFull s = false ∧ liveFrames t = liveFrames s ++ [f]) ∨
    (∃ rest : List Event, s.script = .pop :: rest ∧ s.dvalid = false ∧ t.dvalid = true ∧
      liveFrames s = t.dreg :: liveFrames t) ∨
    (∃ (e : Event) (rest : List Event), s.script = e :: rest ∧ isResetStep e s = true ∧ liveFrames t = [])

/-- A wire frame, its command byte and then exactly `len` payload bytes of any values (sentinels and status codes among them),
queues the frame of that opcode, length and payload, or drops it if the ring is full; the decoder is then back in
AwaitingOpcode, nothing is emitted, and a `BUSY` that was raised is not lowered (41_framing.md sections 3, 5 and 6). -/
def Obligations.WireFrameIsQueuedWithItsPayload : Prop :=
  ∀ (s : State) (op : Opcode) (len : Len) (bs : List Byte) (rest : List Event),
    isFramed op = true → bs.length = len.toNat → s.pos = 0#6 →
    s.script = .rx (packFields op len) :: (bs.map Event.rx ++ rest) →
    ∃ t : State, Sys2Proof.core.run (bs.length + 1) s = .next t ∧
      t.pos = 0#6 ∧ t.script = rest ∧ outputsBetween s t = [] ∧ (s.busy = true → t.busy = true) ∧
      liveFrames t = (if isFull s then liveFrames s else liveFrames s ++ [⟨op, len, bs⟩])

/-- The guard band, in frames (43_flow_control.md section 3): frames sent whole one after another with no pop between them, of
any opcode, length and payload, the INIT frame among them, join the queue in order until it holds 31, and the rest are lost,
never a frame already queued; `BUSY` is high after them exactly if it was before, or one of them was queued and at least 22
frames are. So the frame that makes 22 leaves `BUSY` high, the nine after it are queued, and from the tenth on they are
dropped. The comparison and the INIT frame are the spec's decisions D4, D5 and D6 (log 26); that the bytes stand in the
script one after another is the model's way of saying that no pop comes between (log 1). -/
def Obligations.GuardBandHoldsNineMoreFrames : Prop :=
  ∀ (s : State) (fs : List Frame) (rest : List Event),
    (∀ f ∈ fs, QueueableFrame f) → s.pos = 0#6 →
    s.script = (fs.flatMap wireBytes).map Event.rx ++ rest →
    ∃ t : State, Sys2Proof.core.run (fs.flatMap wireBytes).length s = .next t ∧
      t.script = rest ∧ t.pos = 0#6 ∧ outputsBetween s t = [] ∧
      liveFrames t = liveFrames s ++ fs.take (31 - (liveFrames s).length) ∧
      (t.busy = true ↔
        s.busy = true ∨ ((liveFrames s).length < (liveFrames t).length ∧ 22 ≤ (liveFrames t).length)) ∧
      ∀ (raising : Frame) (more : List Frame), (liveFrames s).length = 21 → fs = raising :: more →
        t.busy = true ∧ liveFrames t = liveFrames s ++ raising :: more.take 9

/-- How each received byte moves `POS` and `TOREAD`, for every byte in every decoder state (10_state.md section 2; the row of
the reserved bytes is the spec's decision D7, log 10; that every command writes `TOREAD` is D25, log 24). -/
def Obligations.ReceivedBytesMoveTheSequencingState : Prop :=
  ∀ (s t : State) (b : Byte) (rest : List Event), s.script = .rx b :: rest → step s = .next t →
    (s.pos = 0#6 → t.toread = lenField b ∧
      t.pos = (if 0x40 ≤ b.toNat ∧ b.toNat ≤ 0xDF ∧ b.toNat % 32 ≠ 0 then 1#6 else 0#6)) ∧
    (s.pos ≠ 0#6 → s.toread ≠ 1#5 → t.pos = s.pos + 1#6 ∧ t.toread = s.toread - 1#5) ∧
    (s.pos ≠ 0#6 → s.toread = 1#5 → t.pos = 0#6 ∧ t.toread = 0#5)

/-- R223 and R194: an execution emits nothing exactly for the headers outside every contract, and for those it changes no
state but `DVALID`. That opcodes 0 and 1 are among them and opcodes 4 and 7 never are rests on the spec's decisions D18, D14
and D6 (log 19). -/
def Obligations.MalformedFramesAreIgnored : Prop :=
  ∀ (s : State) (rest : List Event), s.script = .exec :: rest → s.dvalid = true →
    ∃ t : State, step s = .next t ∧
      (outputsBetween s t = [] ↔ isMalformed s.dreg.opcode s.dreg.length = true) ∧
      (isMalformed s.dreg.opcode s.dreg.length = true →
        t = { s with script := rest, dvalid := false, trace := s.trace ++ [.took .exec, .busyLevel s.busy] })

/-- Which step emits what (44_dispatch.md section 1, 30_encoding.md section 7): a reply only the three defined queries between
frames, with the value of their register; display and buzzer operations only the execution of a frame of the matching opcode;
`Encoder.reset` only the encoder query and the reset. That the other bytes draw no reply rests on the spec's decisions D7, D8
and D9, that the reset emits only `Encoder.reset` on D19 (logs 9, 10, 11). -/
def Obligations.OutputsComeOnlyFromTheirSteps : Prop :=
  ∀ (s t : State) (o : Output), step s = .next t → o ∈ outputsBetween s t →
    ∃ (e : Event) (rest : List Event), s.script = e :: rest ∧
      match o with
      | .reply v =>
        s.pos = 0#6 ∧ ((e = .rx 0x20#8 ∧ v = s.btn) ∨ (e = .rx 0x21#8 ∧ v = narrowEncoder Config.encNarrow s.enc) ∨
          (e = .rx 0x22#8 ∧ v.toNat = (liveFrames s).length))
      | .displayWrite _ => e = .exec ∧ s.dvalid = true ∧ s.dreg.opcode = .lcdWrite
      | .displaySetCursor _ _ => e = .exec ∧ s.dvalid = true ∧ s.dreg.opcode = .setCursor ∧ s.dreg.length = 1#5
      | .displayClear => e = .exec ∧ s.dvalid = true ∧ s.dreg.opcode = .lcdClear
      | .displaySetBacklight _ => e = .exec ∧ s.dvalid = true ∧ s.dreg.opcode = .setLeds ∧ s.dreg.length = 1#5
      | .buzz _ _ => e = .exec ∧ s.dvalid = true ∧ s.dreg.opcode = .beep
      | .encoderReset => (e = .rx 0x21#8 ∧ s.pos = 0#6) ∨ isResetStep e s = true

/-- The record of the run only grows, and a taken step adds its own entry, its outputs in order, and the level of `busy` it
leaves (00_scope.md section 5; the record is the model's, log 5). -/
def Obligations.TakenStepsAreRecorded : Prop :=
  ∀ (s t : State) (e : Event) (rest : List Event), s.script = e :: rest → enabled e s = true → step s = .next t →
    t.trace = s.trace ++ (.took e :: (outputsBetween s t).map .output) ++ [.busyLevel t.busy]

/-! ## What cannot be observed -/

/-- Nothing in the block reads `BUSY` (43_flow_control.md section 2): from two states that differ in `BUSY` alone, the step
leaves states that differ in `BUSY` and the recorded level alone, and emits the same. -/
def Obligations.NothingReadsBusy : Prop :=
  ∀ (s t : State) (level : Bool), step s = .next t →
    ∃ t' : State, step { s with busy := level } = .next t' ∧
      t = { t' with busy := t.busy, trace := t.trace } ∧ outputsBetween s t' = outputsBetween s t

/-- `TOREAD` is dead while `POS = 0` (10_state.md section 2): no step's effect on anything else depends on it, and a step that
leaves AwaitingOpcode has written it. -/
def Obligations.ToreadIsDeadBetweenFrames : Prop :=
  ∀ (s t : State) (x : Len), s.pos = 0#6 → step s = .next t →
    ∃ t' : State, step { s with toread := x } = .next t' ∧ t = { t' with toread := t.toread } ∧
      (t.pos ≠ 0#6 → t' = t)

/-- `DREG` is dead while `DVALID = 0` (10_state.md section 6), so the reset value the model gives it (log 7) has no effect. -/
def Obligations.DregIsDeadWhileInvalid : Prop :=
  ∀ (s t : State) (f : Frame), s.dvalid = false → step s = .next t →
    ∃ t' : State, step { s with dreg := f } = .next t' ∧ t = { t' with dreg := t.dreg } ∧
      (t.dvalid = true → t' = t)

/-- No slot outside the live range is ever read (10_state.md section 3), so the reset values the model gives the slots (log 6)
have no effect: from two states with the same queue in slots that otherwise differ, the step leaves states with the same
queue that differ in the slots alone. -/
def Obligations.SlotsOutsideTheQueueAreNeverRead : Prop :=
  ∀ (s t : State) (sl : Vector Frame Config.nSlots),
    liveFrames { s with slots := sl } = liveFrames s → step s = .next t →
    ∃ t' : State, step { s with slots := sl } = .next t' ∧ t = { t' with slots := t.slots } ∧
      liveFrames t' = liveFrames t

/-! ## Parameters -/

/-- The parameters of the block have the values of 00_scope.md section 4 (the sizes behind "capacity" are the spec's decision
D3, 90_conflicts.md C1 and C2), the derived equalities hold, the widths of the types are the parameters, and the queue never holds more than
`USABLE` frames. The two OPEN parameters (log 13) have no value; the three policies have the one the spec chose (D7, D8, D10;
logs 10 to 12). -/
def Obligations.ParametersAndTheirLaws : Prop :=
  (Config.opcBits = 3 ∧ Config.lenBits = 5 ∧ Config.nSlots = 32 ∧ Config.idxBits = 5 ∧ Config.idxMask = 31 ∧
    Config.usable = 31 ∧ Config.guardBand = 10 ∧ Config.busyThreshold = 22 ∧ Config.maxPayload = 32 ∧
    Config.initByte = 0xFE#8 ∧ Config.pollByte = 0xFF#8) ∧
  (Config.nSlots = 2 ^ Config.idxBits ∧ Config.idxMask = Config.nSlots - 1 ∧ Config.usable = Config.nSlots - 1 ∧
    Config.busyThreshold = Config.nSlots - Config.guardBand ∧ Config.guardBand < Config.nSlots) ∧
  (OpcodeField = BitVec Config.opcBits ∧ Len = BitVec Config.lenBits ∧ SlotIndex = BitVec Config.idxBits) ∧
  (Config.reserved7Policy = .ignore ∧ Config.statusRsvdPolicy = .ignore ∧ Config.encNarrow = .truncate) ∧
  ∀ s : State, (liveFrames s).length ≤ Config.usable
end

