-- ==== Sys2Proof/Laws/State.lean ====
section
/-! SUPPORT. One lemma per field per named update of State, each true by rfl. -/

namespace Sys2Proof.Machine

/-! ### emit -/

@[simp] theorem emit_pos (o : Output) (s : State) : (emit o s).pos = s.pos := rfl
@[simp] theorem emit_toread (o : Output) (s : State) : (emit o s).toread = s.toread := rfl
@[simp] theorem emit_cur (o : Output) (s : State) : (emit o s).cur = s.cur := rfl
@[simp] theorem emit_slots (o : Output) (s : State) : (emit o s).slots = s.slots := rfl
@[simp] theorem emit_head (o : Output) (s : State) : (emit o s).head = s.head := rfl
@[simp] theorem emit_tail (o : Output) (s : State) : (emit o s).tail = s.tail := rfl
@[simp] theorem emit_busy (o : Output) (s : State) : (emit o s).busy = s.busy := rfl
@[simp] theorem emit_btn (o : Output) (s : State) : (emit o s).btn = s.btn := rfl
@[simp] theorem emit_dreg (o : Output) (s : State) : (emit o s).dreg = s.dreg := rfl
@[simp] theorem emit_dvalid (o : Output) (s : State) : (emit o s).dvalid = s.dvalid := rfl
@[simp] theorem emit_enc (o : Output) (s : State) : (emit o s).enc = s.enc := rfl
@[simp] theorem emit_btnIn (o : Output) (s : State) : (emit o s).btnIn = s.btnIn := rfl
@[simp] theorem emit_script (o : Output) (s : State) : (emit o s).script = s.script := rfl
@[simp] theorem emit_trace (o : Output) (s : State) : (emit o s).trace = s.trace ++ [.output o] := rfl

/-! ### emitAll -/

@[simp] theorem emitAll_pos (os : List Output) (s : State) : (emitAll os s).pos = s.pos := rfl
@[simp] theorem emitAll_toread (os : List Output) (s : State) : (emitAll os s).toread = s.toread := rfl
@[simp] theorem emitAll_cur (os : List Output) (s : State) : (emitAll os s).cur = s.cur := rfl
@[simp] theorem emitAll_slots (os : List Output) (s : State) : (emitAll os s).slots = s.slots := rfl
@[simp] theorem emitAll_head (os : List Output) (s : State) : (emitAll os s).head = s.head := rfl
@[simp] theorem emitAll_tail (os : List Output) (s : State) : (emitAll os s).tail = s.tail := rfl
@[simp] theorem emitAll_busy (os : List Output) (s : State) : (emitAll os s).busy = s.busy := rfl
@[simp] theorem emitAll_btn (os : List Output) (s : State) : (emitAll os s).btn = s.btn := rfl
@[simp] theorem emitAll_dreg (os : List Output) (s : State) : (emitAll os s).dreg = s.dreg := rfl
@[simp] theorem emitAll_dvalid (os : List Output) (s : State) : (emitAll os s).dvalid = s.dvalid := rfl
@[simp] theorem emitAll_enc (os : List Output) (s : State) : (emitAll os s).enc = s.enc := rfl
@[simp] theorem emitAll_btnIn (os : List Output) (s : State) : (emitAll os s).btnIn = s.btnIn := rfl
@[simp] theorem emitAll_script (os : List Output) (s : State) : (emitAll os s).script = s.script := rfl
@[simp] theorem emitAll_trace (os : List Output) (s : State) : (emitAll os s).trace = s.trace ++ os.map .output := rfl

/-! ### reply -/

@[simp] theorem reply_pos (v : Byte) (s : State) : (reply v s).pos = s.pos := rfl
@[simp] theorem reply_toread (v : Byte) (s : State) : (reply v s).toread = s.toread := rfl
@[simp] theorem reply_cur (v : Byte) (s : State) : (reply v s).cur = s.cur := rfl
@[simp] theorem reply_slots (v : Byte) (s : State) : (reply v s).slots = s.slots := rfl
@[simp] theorem reply_head (v : Byte) (s : State) : (reply v s).head = s.head := rfl
@[simp] theorem reply_tail (v : Byte) (s : State) : (reply v s).tail = s.tail := rfl
@[simp] theorem reply_busy (v : Byte) (s : State) : (reply v s).busy = s.busy := rfl
@[simp] theorem reply_btn (v : Byte) (s : State) : (reply v s).btn = s.btn := rfl
@[simp] theorem reply_dreg (v : Byte) (s : State) : (reply v s).dreg = s.dreg := rfl
@[simp] theorem reply_dvalid (v : Byte) (s : State) : (reply v s).dvalid = s.dvalid := rfl
@[simp] theorem reply_enc (v : Byte) (s : State) : (reply v s).enc = s.enc := rfl
@[simp] theorem reply_btnIn (v : Byte) (s : State) : (reply v s).btnIn = s.btnIn := rfl
@[simp] theorem reply_script (v : Byte) (s : State) : (reply v s).script = s.script := rfl
@[simp] theorem reply_trace (v : Byte) (s : State) : (reply v s).trace = s.trace ++ [.output (.reply v)] := rfl

/-! ### encoderReset -/

@[simp] theorem encoderReset_pos (s : State) : (encoderReset s).pos = s.pos := rfl
@[simp] theorem encoderReset_toread (s : State) : (encoderReset s).toread = s.toread := rfl
@[simp] theorem encoderReset_cur (s : State) : (encoderReset s).cur = s.cur := rfl
@[simp] theorem encoderReset_slots (s : State) : (encoderReset s).slots = s.slots := rfl
@[simp] theorem encoderReset_head (s : State) : (encoderReset s).head = s.head := rfl
@[simp] theorem encoderReset_tail (s : State) : (encoderReset s).tail = s.tail := rfl
@[simp] theorem encoderReset_busy (s : State) : (encoderReset s).busy = s.busy := rfl
@[simp] theorem encoderReset_btn (s : State) : (encoderReset s).btn = s.btn := rfl
@[simp] theorem encoderReset_dreg (s : State) : (encoderReset s).dreg = s.dreg := rfl
@[simp] theorem encoderReset_dvalid (s : State) : (encoderReset s).dvalid = s.dvalid := rfl
@[simp] theorem encoderReset_enc (s : State) : (encoderReset s).enc = 0#16 := rfl
@[simp] theorem encoderReset_btnIn (s : State) : (encoderReset s).btnIn = s.btnIn := rfl
@[simp] theorem encoderReset_script (s : State) : (encoderReset s).script = s.script := rfl
@[simp] theorem encoderReset_trace (s : State) : (encoderReset s).trace = s.trace ++ [.output .encoderReset] := rfl

/-! ### loadToread -/

@[simp] theorem loadToread_pos (len : Len) (s : State) : (loadToread len s).pos = s.pos := rfl
@[simp] theorem loadToread_toread (len : Len) (s : State) : (loadToread len s).toread = len := rfl
@[simp] theorem loadToread_cur (len : Len) (s : State) : (loadToread len s).cur = s.cur := rfl
@[simp] theorem loadToread_slots (len : Len) (s : State) : (loadToread len s).slots = s.slots := rfl
@[simp] theorem loadToread_head (len : Len) (s : State) : (loadToread len s).head = s.head := rfl
@[simp] theorem loadToread_tail (len : Len) (s : State) : (loadToread len s).tail = s.tail := rfl
@[simp] theorem loadToread_busy (len : Len) (s : State) : (loadToread len s).busy = s.busy := rfl
@[simp] theorem loadToread_btn (len : Len) (s : State) : (loadToread len s).btn = s.btn := rfl
@[simp] theorem loadToread_dreg (len : Len) (s : State) : (loadToread len s).dreg = s.dreg := rfl
@[simp] theorem loadToread_dvalid (len : Len) (s : State) : (loadToread len s).dvalid = s.dvalid := rfl
@[simp] theorem loadToread_enc (len : Len) (s : State) : (loadToread len s).enc = s.enc := rfl
@[simp] theorem loadToread_btnIn (len : Len) (s : State) : (loadToread len s).btnIn = s.btnIn := rfl
@[simp] theorem loadToread_script (len : Len) (s : State) : (loadToread len s).script = s.script := rfl
@[simp] theorem loadToread_trace (len : Len) (s : State) : (loadToread len s).trace = s.trace := rfl

/-! ### countPayload -/

@[simp] theorem countPayload_pos (s : State) : (countPayload s).pos = s.pos + 1#6 := rfl
@[simp] theorem countPayload_toread (s : State) : (countPayload s).toread = s.toread - 1#5 := rfl
@[simp] theorem countPayload_cur (s : State) : (countPayload s).cur = s.cur := rfl
@[simp] theorem countPayload_slots (s : State) : (countPayload s).slots = s.slots := rfl
@[simp] theorem countPayload_head (s : State) : (countPayload s).head = s.head := rfl
@[simp] theorem countPayload_tail (s : State) : (countPayload s).tail = s.tail := rfl
@[simp] theorem countPayload_busy (s : State) : (countPayload s).busy = s.busy := rfl
@[simp] theorem countPayload_btn (s : State) : (countPayload s).btn = s.btn := rfl
@[simp] theorem countPayload_dreg (s : State) : (countPayload s).dreg = s.dreg := rfl
@[simp] theorem countPayload_dvalid (s : State) : (countPayload s).dvalid = s.dvalid := rfl
@[simp] theorem countPayload_enc (s : State) : (countPayload s).enc = s.enc := rfl
@[simp] theorem countPayload_btnIn (s : State) : (countPayload s).btnIn = s.btnIn := rfl
@[simp] theorem countPayload_script (s : State) : (countPayload s).script = s.script := rfl
@[simp] theorem countPayload_trace (s : State) : (countPayload s).trace = s.trace := rfl

/-! ### takeFrame -/

@[simp] theorem takeFrame_pos (s : State) : (takeFrame s).pos = s.pos := rfl
@[simp] theorem takeFrame_toread (s : State) : (takeFrame s).toread = s.toread := rfl
@[simp] theorem takeFrame_cur (s : State) : (takeFrame s).cur = s.cur := rfl
@[simp] theorem takeFrame_slots (s : State) : (takeFrame s).slots = s.slots := rfl
@[simp] theorem takeFrame_head (s : State) : (takeFrame s).head = s.head := rfl
@[simp] theorem takeFrame_tail (s : State) : (takeFrame s).tail = s.tail := rfl
@[simp] theorem takeFrame_busy (s : State) : (takeFrame s).busy = s.busy := rfl
@[simp] theorem takeFrame_btn (s : State) : (takeFrame s).btn = s.btn := rfl
@[simp] theorem takeFrame_dreg (s : State) : (takeFrame s).dreg = s.dreg := rfl
@[simp] theorem takeFrame_dvalid (s : State) : (takeFrame s).dvalid = false := rfl
@[simp] theorem takeFrame_enc (s : State) : (takeFrame s).enc = s.enc := rfl
@[simp] theorem takeFrame_btnIn (s : State) : (takeFrame s).btnIn = s.btnIn := rfl
@[simp] theorem takeFrame_script (s : State) : (takeFrame s).script = s.script := rfl
@[simp] theorem takeFrame_trace (s : State) : (takeFrame s).trace = s.trace := rfl

/-! ### clear -/

@[simp] theorem clear_pos (s : State) : (clear s).pos = s.pos := rfl
@[simp] theorem clear_toread (s : State) : (clear s).toread = s.toread := rfl
@[simp] theorem clear_cur (s : State) : (clear s).cur = s.cur := rfl
@[simp] theorem clear_slots (s : State) : (clear s).slots = s.slots := rfl
@[simp] theorem clear_head (s : State) : (clear s).head = 0#5 := rfl
@[simp] theorem clear_tail (s : State) : (clear s).tail = 0#5 := rfl
@[simp] theorem clear_busy (s : State) : (clear s).busy = s.busy := rfl
@[simp] theorem clear_btn (s : State) : (clear s).btn = s.btn := rfl
@[simp] theorem clear_dreg (s : State) : (clear s).dreg = s.dreg := rfl
@[simp] theorem clear_dvalid (s : State) : (clear s).dvalid = s.dvalid := rfl
@[simp] theorem clear_enc (s : State) : (clear s).enc = s.enc := rfl
@[simp] theorem clear_btnIn (s : State) : (clear s).btnIn = s.btnIn := rfl
@[simp] theorem clear_script (s : State) : (clear s).script = s.script := rfl
@[simp] theorem clear_trace (s : State) : (clear s).trace = s.trace := rfl

/-! ### slotWrite -/

@[simp] theorem slotWrite_pos (i : SlotIndex) (f : Frame) (s : State) : (slotWrite i f s).pos = s.pos := rfl
@[simp] theorem slotWrite_toread (i : SlotIndex) (f : Frame) (s : State) : (slotWrite i f s).toread = s.toread := rfl
@[simp] theorem slotWrite_cur (i : SlotIndex) (f : Frame) (s : State) : (slotWrite i f s).cur = s.cur := rfl
@[simp] theorem slotWrite_slots (i : SlotIndex) (f : Frame) (s : State) : (slotWrite i f s).slots = s.slots.set i.toNat f i.isLt := rfl
@[simp] theorem slotWrite_head (i : SlotIndex) (f : Frame) (s : State) : (slotWrite i f s).head = s.head := rfl
@[simp] theorem slotWrite_tail (i : SlotIndex) (f : Frame) (s : State) : (slotWrite i f s).tail = s.tail := rfl
@[simp] theorem slotWrite_busy (i : SlotIndex) (f : Frame) (s : State) : (slotWrite i f s).busy = s.busy := rfl
@[simp] theorem slotWrite_btn (i : SlotIndex) (f : Frame) (s : State) : (slotWrite i f s).btn = s.btn := rfl
@[simp] theorem slotWrite_dreg (i : SlotIndex) (f : Frame) (s : State) : (slotWrite i f s).dreg = s.dreg := rfl
@[simp] theorem slotWrite_dvalid (i : SlotIndex) (f : Frame) (s : State) : (slotWrite i f s).dvalid = s.dvalid := rfl
@[simp] theorem slotWrite_enc (i : SlotIndex) (f : Frame) (s : State) : (slotWrite i f s).enc = s.enc := rfl
@[simp] theorem slotWrite_btnIn (i : SlotIndex) (f : Frame) (s : State) : (slotWrite i f s).btnIn = s.btnIn := rfl
@[simp] theorem slotWrite_script (i : SlotIndex) (f : Frame) (s : State) : (slotWrite i f s).script = s.script := rfl
@[simp] theorem slotWrite_trace (i : SlotIndex) (f : Frame) (s : State) : (slotWrite i f s).trace = s.trace := rfl

/-! ### fullReset -/

@[simp] theorem fullReset_pos (s : State) : (fullReset s).pos = 0#6 := rfl
@[simp] theorem fullReset_toread (s : State) : (fullReset s).toread = 0#5 := rfl
@[simp] theorem fullReset_cur (s : State) : (fullReset s).cur = Frame.zero := rfl
@[simp] theorem fullReset_slots (s : State) : (fullReset s).slots = s.slots := rfl
@[simp] theorem fullReset_head (s : State) : (fullReset s).head = 0#5 := rfl
@[simp] theorem fullReset_tail (s : State) : (fullReset s).tail = 0#5 := rfl
@[simp] theorem fullReset_busy (s : State) : (fullReset s).busy = false := rfl
@[simp] theorem fullReset_btn (s : State) : (fullReset s).btn = 0#8 := rfl
@[simp] theorem fullReset_dreg (s : State) : (fullReset s).dreg = s.dreg := rfl
@[simp] theorem fullReset_dvalid (s : State) : (fullReset s).dvalid = false := rfl
@[simp] theorem fullReset_enc (s : State) : (fullReset s).enc = 0#16 := rfl
@[simp] theorem fullReset_btnIn (s : State) : (fullReset s).btnIn = s.btnIn := rfl
@[simp] theorem fullReset_script (s : State) : (fullReset s).script = s.script := rfl
@[simp] theorem fullReset_trace (s : State) : (fullReset s).trace = s.trace ++ [.output .encoderReset] := rfl

/-! ### refreshStep -/

@[simp] theorem refreshStep_pos (s : State) : (refreshStep s).pos = s.pos := rfl
@[simp] theorem refreshStep_toread (s : State) : (refreshStep s).toread = s.toread := rfl
@[simp] theorem refreshStep_cur (s : State) : (refreshStep s).cur = s.cur := rfl
@[simp] theorem refreshStep_slots (s : State) : (refreshStep s).slots = s.slots := rfl
@[simp] theorem refreshStep_head (s : State) : (refreshStep s).head = s.head := rfl
@[simp] theorem refreshStep_tail (s : State) : (refreshStep s).tail = s.tail := rfl
@[simp] theorem refreshStep_busy (s : State) : (refreshStep s).busy = s.busy := rfl
@[simp] theorem refreshStep_btn (s : State) : (refreshStep s).btn = s.btnIn := rfl
@[simp] theorem refreshStep_dreg (s : State) : (refreshStep s).dreg = s.dreg := rfl
@[simp] theorem refreshStep_dvalid (s : State) : (refreshStep s).dvalid = s.dvalid := rfl
@[simp] theorem refreshStep_enc (s : State) : (refreshStep s).enc = s.enc := rfl
@[simp] theorem refreshStep_btnIn (s : State) : (refreshStep s).btnIn = s.btnIn := rfl
@[simp] theorem refreshStep_script (s : State) : (refreshStep s).script = s.script := rfl
@[simp] theorem refreshStep_trace (s : State) : (refreshStep s).trace = s.trace := rfl

/-! ### encMoveStep -/

@[simp] theorem encMoveStep_pos (d : Int) (s : State) : (encMoveStep d s).pos = s.pos := rfl
@[simp] theorem encMoveStep_toread (d : Int) (s : State) : (encMoveStep d s).toread = s.toread := rfl
@[simp] theorem encMoveStep_cur (d : Int) (s : State) : (encMoveStep d s).cur = s.cur := rfl
@[simp] theorem encMoveStep_slots (d : Int) (s : State) : (encMoveStep d s).slots = s.slots := rfl
@[simp] theorem encMoveStep_head (d : Int) (s : State) : (encMoveStep d s).head = s.head := rfl
@[simp] theorem encMoveStep_tail (d : Int) (s : State) : (encMoveStep d s).tail = s.tail := rfl
@[simp] theorem encMoveStep_busy (d : Int) (s : State) : (encMoveStep d s).busy = s.busy := rfl
@[simp] theorem encMoveStep_btn (d : Int) (s : State) : (encMoveStep d s).btn = s.btn := rfl
@[simp] theorem encMoveStep_dreg (d : Int) (s : State) : (encMoveStep d s).dreg = s.dreg := rfl
@[simp] theorem encMoveStep_dvalid (d : Int) (s : State) : (encMoveStep d s).dvalid = s.dvalid := rfl
@[simp] theorem encMoveStep_enc (d : Int) (s : State) : (encMoveStep d s).enc = moveCount s.enc d := rfl
@[simp] theorem encMoveStep_btnIn (d : Int) (s : State) : (encMoveStep d s).btnIn = s.btnIn := rfl
@[simp] theorem encMoveStep_script (d : Int) (s : State) : (encMoveStep d s).script = s.script := rfl
@[simp] theorem encMoveStep_trace (d : Int) (s : State) : (encMoveStep d s).trace = s.trace := rfl

/-! ### btnChangeStep -/

@[simp] theorem btnChangeStep_pos (m : Byte) (s : State) : (btnChangeStep m s).pos = s.pos := rfl
@[simp] theorem btnChangeStep_toread (m : Byte) (s : State) : (btnChangeStep m s).toread = s.toread := rfl
@[simp] theorem btnChangeStep_cur (m : Byte) (s : State) : (btnChangeStep m s).cur = s.cur := rfl
@[simp] theorem btnChangeStep_slots (m : Byte) (s : State) : (btnChangeStep m s).slots = s.slots := rfl
@[simp] theorem btnChangeStep_head (m : Byte) (s : State) : (btnChangeStep m s).head = s.head := rfl
@[simp] theorem btnChangeStep_tail (m : Byte) (s : State) : (btnChangeStep m s).tail = s.tail := rfl
@[simp] theorem btnChangeStep_busy (m : Byte) (s : State) : (btnChangeStep m s).busy = s.busy := rfl
@[simp] theorem btnChangeStep_btn (m : Byte) (s : State) : (btnChangeStep m s).btn = s.btn := rfl
@[simp] theorem btnChangeStep_dreg (m : Byte) (s : State) : (btnChangeStep m s).dreg = s.dreg := rfl
@[simp] theorem btnChangeStep_dvalid (m : Byte) (s : State) : (btnChangeStep m s).dvalid = s.dvalid := rfl
@[simp] theorem btnChangeStep_enc (m : Byte) (s : State) : (btnChangeStep m s).enc = s.enc := rfl
@[simp] theorem btnChangeStep_btnIn (m : Byte) (s : State) : (btnChangeStep m s).btnIn = m := rfl
@[simp] theorem btnChangeStep_script (m : Byte) (s : State) : (btnChangeStep m s).script = s.script := rfl
@[simp] theorem btnChangeStep_trace (m : Byte) (s : State) : (btnChangeStep m s).trace = s.trace := rfl

/-! ### withScript -/

@[simp] theorem withScript_pos (rest : List Event) (s : State) : (withScript rest s).pos = s.pos := rfl
@[simp] theorem withScript_toread (rest : List Event) (s : State) : (withScript rest s).toread = s.toread := rfl
@[simp] theorem withScript_cur (rest : List Event) (s : State) : (withScript rest s).cur = s.cur := rfl
@[simp] theorem withScript_slots (rest : List Event) (s : State) : (withScript rest s).slots = s.slots := rfl
@[simp] theorem withScript_head (rest : List Event) (s : State) : (withScript rest s).head = s.head := rfl
@[simp] theorem withScript_tail (rest : List Event) (s : State) : (withScript rest s).tail = s.tail := rfl
@[simp] theorem withScript_busy (rest : List Event) (s : State) : (withScript rest s).busy = s.busy := rfl
@[simp] theorem withScript_btn (rest : List Event) (s : State) : (withScript rest s).btn = s.btn := rfl
@[simp] theorem withScript_dreg (rest : List Event) (s : State) : (withScript rest s).dreg = s.dreg := rfl
@[simp] theorem withScript_dvalid (rest : List Event) (s : State) : (withScript rest s).dvalid = s.dvalid := rfl
@[simp] theorem withScript_enc (rest : List Event) (s : State) : (withScript rest s).enc = s.enc := rfl
@[simp] theorem withScript_btnIn (rest : List Event) (s : State) : (withScript rest s).btnIn = s.btnIn := rfl
@[simp] theorem withScript_script (rest : List Event) (s : State) : (withScript rest s).script = rest := rfl
@[simp] theorem withScript_trace (rest : List Event) (s : State) : (withScript rest s).trace = s.trace := rfl

/-! ### recordStep -/

@[simp] theorem recordStep_pos (e : Event) (s : State) : (recordStep e s).pos = s.pos := rfl
@[simp] theorem recordStep_toread (e : Event) (s : State) : (recordStep e s).toread = s.toread := rfl
@[simp] theorem recordStep_cur (e : Event) (s : State) : (recordStep e s).cur = s.cur := rfl
@[simp] theorem recordStep_slots (e : Event) (s : State) : (recordStep e s).slots = s.slots := rfl
@[simp] theorem recordStep_head (e : Event) (s : State) : (recordStep e s).head = s.head := rfl
@[simp] theorem recordStep_tail (e : Event) (s : State) : (recordStep e s).tail = s.tail := rfl
@[simp] theorem recordStep_busy (e : Event) (s : State) : (recordStep e s).busy = s.busy := rfl
@[simp] theorem recordStep_btn (e : Event) (s : State) : (recordStep e s).btn = s.btn := rfl
@[simp] theorem recordStep_dreg (e : Event) (s : State) : (recordStep e s).dreg = s.dreg := rfl
@[simp] theorem recordStep_dvalid (e : Event) (s : State) : (recordStep e s).dvalid = s.dvalid := rfl
@[simp] theorem recordStep_enc (e : Event) (s : State) : (recordStep e s).enc = s.enc := rfl
@[simp] theorem recordStep_btnIn (e : Event) (s : State) : (recordStep e s).btnIn = s.btnIn := rfl
@[simp] theorem recordStep_script (e : Event) (s : State) : (recordStep e s).script = s.script := rfl
@[simp] theorem recordStep_trace (e : Event) (s : State) : (recordStep e s).trace = s.trace ++ [.took e] := rfl

/-! ### recordBusy -/

@[simp] theorem recordBusy_pos (s : State) : (recordBusy s).pos = s.pos := rfl
@[simp] theorem recordBusy_toread (s : State) : (recordBusy s).toread = s.toread := rfl
@[simp] theorem recordBusy_cur (s : State) : (recordBusy s).cur = s.cur := rfl
@[simp] theorem recordBusy_slots (s : State) : (recordBusy s).slots = s.slots := rfl
@[simp] theorem recordBusy_head (s : State) : (recordBusy s).head = s.head := rfl
@[simp] theorem recordBusy_tail (s : State) : (recordBusy s).tail = s.tail := rfl
@[simp] theorem recordBusy_busy (s : State) : (recordBusy s).busy = s.busy := rfl
@[simp] theorem recordBusy_btn (s : State) : (recordBusy s).btn = s.btn := rfl
@[simp] theorem recordBusy_dreg (s : State) : (recordBusy s).dreg = s.dreg := rfl
@[simp] theorem recordBusy_dvalid (s : State) : (recordBusy s).dvalid = s.dvalid := rfl
@[simp] theorem recordBusy_enc (s : State) : (recordBusy s).enc = s.enc := rfl
@[simp] theorem recordBusy_btnIn (s : State) : (recordBusy s).btnIn = s.btnIn := rfl
@[simp] theorem recordBusy_script (s : State) : (recordBusy s).script = s.script := rfl
@[simp] theorem recordBusy_trace (s : State) : (recordBusy s).trace = s.trace ++ [.busyLevel s.busy] := rfl

/-! ### Updates that test before they write -/

@[simp] theorem assertBusy_pos (s : State) : (assertBusy s).pos = s.pos := by unfold assertBusy; split <;> rfl
@[simp] theorem assertBusy_toread (s : State) : (assertBusy s).toread = s.toread := by unfold assertBusy; split <;> rfl
@[simp] theorem assertBusy_cur (s : State) : (assertBusy s).cur = s.cur := by unfold assertBusy; split <;> rfl
@[simp] theorem assertBusy_slots (s : State) : (assertBusy s).slots = s.slots := by unfold assertBusy; split <;> rfl
@[simp] theorem assertBusy_head (s : State) : (assertBusy s).head = s.head := by unfold assertBusy; split <;> rfl
@[simp] theorem assertBusy_tail (s : State) : (assertBusy s).tail = s.tail := by unfold assertBusy; split <;> rfl
@[simp] theorem assertBusy_btn (s : State) : (assertBusy s).btn = s.btn := by unfold assertBusy; split <;> rfl
@[simp] theorem assertBusy_dreg (s : State) : (assertBusy s).dreg = s.dreg := by unfold assertBusy; split <;> rfl
@[simp] theorem assertBusy_dvalid (s : State) : (assertBusy s).dvalid = s.dvalid := by unfold assertBusy; split <;> rfl
@[simp] theorem assertBusy_enc (s : State) : (assertBusy s).enc = s.enc := by unfold assertBusy; split <;> rfl
@[simp] theorem assertBusy_btnIn (s : State) : (assertBusy s).btnIn = s.btnIn := by unfold assertBusy; split <;> rfl
@[simp] theorem assertBusy_script (s : State) : (assertBusy s).script = s.script := by unfold assertBusy; split <;> rfl
@[simp] theorem assertBusy_trace (s : State) : (assertBusy s).trace = s.trace := by unfold assertBusy; split <;> rfl
@[simp] theorem assertBusy_busy (s : State) :
    (assertBusy s).busy = (s.busy || decide (Config.busyThreshold ≤ (size s).toNat)) := by
  unfold assertBusy; split <;> simp_all

@[simp] theorem deassertBusy_pos (s : State) : (deassertBusy s).pos = s.pos := by unfold deassertBusy; split <;> rfl
@[simp] theorem deassertBusy_toread (s : State) : (deassertBusy s).toread = s.toread := by unfold deassertBusy; split <;> rfl
@[simp] theorem deassertBusy_cur (s : State) : (deassertBusy s).cur = s.cur := by unfold deassertBusy; split <;> rfl
@[simp] theorem deassertBusy_slots (s : State) : (deassertBusy s).slots = s.slots := by unfold deassertBusy; split <;> rfl
@[simp] theorem deassertBusy_head (s : State) : (deassertBusy s).head = s.head := by unfold deassertBusy; split <;> rfl
@[simp] theorem deassertBusy_tail (s : State) : (deassertBusy s).tail = s.tail := by unfold deassertBusy; split <;> rfl
@[simp] theorem deassertBusy_btn (s : State) : (deassertBusy s).btn = s.btn := by unfold deassertBusy; split <;> rfl
@[simp] theorem deassertBusy_dreg (s : State) : (deassertBusy s).dreg = s.dreg := by unfold deassertBusy; split <;> rfl
@[simp] theorem deassertBusy_dvalid (s : State) : (deassertBusy s).dvalid = s.dvalid := by unfold deassertBusy; split <;> rfl
@[simp] theorem deassertBusy_enc (s : State) : (deassertBusy s).enc = s.enc := by unfold deassertBusy; split <;> rfl
@[simp] theorem deassertBusy_btnIn (s : State) : (deassertBusy s).btnIn = s.btnIn := by unfold deassertBusy; split <;> rfl
@[simp] theorem deassertBusy_script (s : State) : (deassertBusy s).script = s.script := by unfold deassertBusy; split <;> rfl
@[simp] theorem deassertBusy_trace (s : State) : (deassertBusy s).trace = s.trace := by unfold deassertBusy; split <;> rfl
@[simp] theorem deassertBusy_busy (s : State) : (deassertBusy s).busy = (s.busy && !isEmpty s) := by
  unfold deassertBusy; split <;> simp_all

@[simp] theorem storePayload_pos (b : Byte) (s : State) : (storePayload b s).pos = s.pos := by unfold storePayload; split <;> rfl
@[simp] theorem storePayload_toread (b : Byte) (s : State) : (storePayload b s).toread = s.toread := by unfold storePayload; split <;> rfl
@[simp] theorem storePayload_slots (b : Byte) (s : State) : (storePayload b s).slots = s.slots := by unfold storePayload; split <;> rfl
@[simp] theorem storePayload_head (b : Byte) (s : State) : (storePayload b s).head = s.head := by unfold storePayload; split <;> rfl
@[simp] theorem storePayload_tail (b : Byte) (s : State) : (storePayload b s).tail = s.tail := by unfold storePayload; split <;> rfl
@[simp] theorem storePayload_busy (b : Byte) (s : State) : (storePayload b s).busy = s.busy := by unfold storePayload; split <;> rfl
@[simp] theorem storePayload_btn (b : Byte) (s : State) : (storePayload b s).btn = s.btn := by unfold storePayload; split <;> rfl
@[simp] theorem storePayload_dreg (b : Byte) (s : State) : (storePayload b s).dreg = s.dreg := by unfold storePayload; split <;> rfl
@[simp] theorem storePayload_dvalid (b : Byte) (s : State) : (storePayload b s).dvalid = s.dvalid := by unfold storePayload; split <;> rfl
@[simp] theorem storePayload_enc (b : Byte) (s : State) : (storePayload b s).enc = s.enc := by unfold storePayload; split <;> rfl
@[simp] theorem storePayload_btnIn (b : Byte) (s : State) : (storePayload b s).btnIn = s.btnIn := by unfold storePayload; split <;> rfl
@[simp] theorem storePayload_script (b : Byte) (s : State) : (storePayload b s).script = s.script := by unfold storePayload; split <;> rfl
@[simp] theorem storePayload_trace (b : Byte) (s : State) : (storePayload b s).trace = s.trace := by unfold storePayload; split <;> rfl

end Sys2Proof.Machine
end

