-- ==== Sys2Proof/Laws/Ops.lean ====
section
/-! SUPPORT. What each shared operation can do, said once: the ring, completion, the framer's operations, the dispatcher's
steps, and the inversion of one scripted step. -/

namespace Sys2Proof.Machine

/-! ## Outcomes -/

@[simp] theorem andThen_next {α β : Type} (a : α) (k : α → Host.Outcome β Fault Refusal) :
    andThen (.next a) k = k a := rfl

@[simp] theorem andThen_refused {α β : Type} (r : Refusal) (k : α → Host.Outcome β Fault Refusal) :
    andThen (.refused r) k = .refused r := rfl

/-- A sequence answers next exactly when both parts do. -/
theorem andThen_eq_next {α β : Type} {o : Host.Outcome α Fault Refusal} {k : α → Host.Outcome β Fault Refusal} {b : β} :
    andThen o k = .next b ↔ ∃ a, o = .next a ∧ k a = .next b := by
  cases o <;> simp [andThen]

/-! ## The ring -/

/-- The masked index is the 5-bit sum. -/
@[simp] theorem nextIndex_eq (i : SlotIndex) : nextIndex i = i + 1#5 := by
  revert i; decide

theorem isEmpty_eq_true (s : State) : isEmpty s = true ↔ s.head = s.tail := by simp [isEmpty]

theorem isFull_eq_true (s : State) : isFull s = true ↔ s.head + 1#5 = s.tail := by simp [isFull]

theorem isEmpty_eq_false (s : State) : isEmpty s = false ↔ s.head ≠ s.tail := by simp [isEmpty]

theorem isFull_eq_false (s : State) : isFull s = false ↔ s.head + 1#5 ≠ s.tail := by simp [isFull]

/-- `Size()` depends on the two indices alone. -/
theorem size_congr {s t : State} (hh : t.head = s.head) (ht : t.tail = s.tail) : size t = size s := by
  simp [size, hh, ht]

/-- The slot written reads as the frame stored; every other slot reads as before. -/
theorem slotRead_slotWrite (i j : SlotIndex) (f : Frame) (s : State) :
    slotRead (slotWrite i f s) j = if i = j then f else slotRead s j := by
  simp [slotRead, slotWrite, Vector.getElem_set, BitVec.toNat_inj]

/-- A push that the ring has room for stores at `HEAD` and moves `HEAD`. -/
theorem pushBack_of_room {f : Frame} {s : State} (h : isFull s = false) :
    pushBack f s = .next { slotWrite s.head f s with head := s.head + 1#5 } := by
  simp [pushBack, h]

/-- A pop from a ring that is not empty reads at `TAIL` and moves `TAIL`. -/
theorem popFront_of_some {s : State} (h : isEmpty s = false) :
    popFront s = .next (slotRead s s.tail, { s with tail := s.tail + 1#5 }) := by
  simp [popFront, h]

/-! ## The framer -/

/-- Completion always answers next, with the state `completionOf` writes out. -/
theorem complete_eq (s : State) : complete s = .next (completionOf s) := by
  unfold complete completionOf
  by_cases h : s.head + 1#5 = s.tail
  · simp [(isFull_eq_true s).2 h, h]
  · rw [if_neg h, if_neg (by simp [(isFull_eq_false s).2 h]), pushBack_of_room ((isFull_eq_false s).2 h)]
    have h22 : ∀ n : Nat, (Config.busyThreshold ≤ n) = (22 ≤ n) := fun _ => rfl
    simp only [andThen_next, assertBusy_busy, h22]
    simp [size]

/-- The start of a frame always answers next. -/
theorem frameStart_eq (op : Opcode) (len : Len) (s : State) :
    frameStart op len s = .next
      (if len = 0#5 then completionOf { s with toread := len, cur := ⟨op, len, []⟩ }
       else { s with toread := len, cur := ⟨op, len, []⟩, pos := 1#6 }) := by
  unfold frameStart
  simp only [loadToread, complete_eq]
  split <;> rfl

/-- The receipt of a payload byte always answers next. -/
theorem receiveData_eq (b : Byte) (s : State) :
    receiveData b s = .next
      (if s.toread = 1#5 then completionOf (countPayload (storePayload b s))
       else countPayload (storePayload b s)) := by
  have h : s.toread - 1#5 = 0#5 ↔ s.toread = 1#5 := by
    constructor <;> intro h <;> bv_omega
  unfold receiveData
  simp only [complete_eq, countPayload_toread, storePayload_toread, h]
  split <;> rfl

/-! ## The consumer -/

/-- An enabled `POP` moves the oldest frame into `DREG`. -/
theorem popStep_eq {s : State} (h : isEmpty s = false) :
    popStep s = .next { s with tail := s.tail + 1#5, dreg := slotRead s s.tail, dvalid := true } := by
  simp [popStep, popFront_of_some h]

/-! ## One scripted step -/

/-- What a step that answers next can be: nothing scripted; an entry passed over; or an enabled step, taken and recorded. -/
theorem step_cases {s t : State} (h : step s = .next t) :
    (s.script = [] ∧ t = s) ∨
    (∃ e rest, s.script = e :: rest ∧ enabled e s = false ∧ t = withScript rest s) ∨
    (∃ e rest u, s.script = e :: rest ∧ enabled e s = true ∧
      agentStep e (recordStep e (withScript rest s)) = .next u ∧ t = recordBusy u) := by
  unfold step runScript at h
  split at h
  · exact .inl ⟨‹_›, by cases h; rfl⟩
  · rename_i e rest hs
    have he : enabled e (withScript rest s) = enabled e s := by cases e <;> rfl
    unfold runEvent at h
    rw [he] at h
    split at h
    · obtain ⟨u, hu, ht⟩ := andThen_eq_next.1 h
      exact .inr (.inr ⟨e, rest, u, hs, ‹_›, hu, by cases ht; rfl⟩)
    · exact .inr (.inl ⟨e, rest, hs, by simp_all, by cases h; rfl⟩)

/-- A scripted step that is enabled and answers next. -/
theorem step_of_enabled {s u : State} {e : Event} {rest : List Event} (hs : s.script = e :: rest)
    (he : enabled e s = true) (hu : agentStep e (recordStep e (withScript rest s)) = .next u) :
    step s = .next (recordBusy u) := by
  have he' : enabled e (withScript rest s) = true := by cases e <;> exact he
  simp only [step, runScript, hs, runEvent, he', if_true, hu, andThen_next]

/-- A scripted step that is not enabled. -/
theorem step_of_disabled {s : State} {e : Event} {rest : List Event} (hs : s.script = e :: rest)
    (he : enabled e s = false) : step s = .next (withScript rest s) := by
  have he' : enabled e (withScript rest s) = false := by cases e <;> exact he
  simp only [step, runScript, hs, runEvent, he', Bool.false_eq_true, if_false]

/-- No scripted step. -/
theorem step_of_idle {s : State} (hs : s.script = []) : step s = .next s := by
  simp only [step, runScript, hs]

/-- A run of one more step begins with that step. -/
theorem run_succ_of_step {s t : State} (n : Nat) (h : step s = .next t) :
    Sys2Proof.core.run (n + 1) s = Sys2Proof.core.run n t := by
  have h' : Sys2Proof.core.step s = .next t := h
  simp only [Host.Core.run, h']

end Sys2Proof.Machine
end

