-- ==== Sys2Proof/Laws/PerInstr.lean ====
section
/-! SUPPORT. A statement for every instruction, made per instruction: its encoding is a word of a row of the opcode table that
has its mnemonic and its format. -/

namespace Sys2Proof.Laws.RowOfEncoding

/-- The encoding of a well-formed instruction is a word of a row of its own mnemonic and format. -/
def Statement (i : Instr) : Prop :=
  i.wellFormed = true →
    (opcodeTable.any fun r => r.mnemonic == mnemonicOf i && r.format == formatOf i && r.covers (encode i)) = true

theorem read (len : Len) : Statement (.read len) := by
  revert len; unfold Statement; decide

theorem getStatusButtons : Statement .getStatusButtons := by unfold Statement; decide

theorem getStatusEncoder : Statement .getStatusEncoder := by unfold Statement; decide

theorem getStatusQdepth : Statement .getStatusQdepth := by unfold Statement; decide

theorem getStatusRsvd (sub : Len) : Statement (.getStatusRsvd sub) := by
  revert sub; unfold Statement; decide

theorem setCursor (len : Len) : Statement (.setCursor len) := by
  revert len; unfold Statement; decide

theorem lcdWrite (len : Len) : Statement (.lcdWrite len) := by
  revert len; unfold Statement; decide

theorem lcdClear (len : Len) : Statement (.lcdClear len) := by
  revert len; unfold Statement; decide

theorem setLeds (len : Len) : Statement (.setLeds len) := by
  revert len; unfold Statement; decide

theorem beep (len : Len) : Statement (.beep len) := by
  revert len; unfold Statement; decide

theorem rsvd7 (len : Len) : Statement (.rsvd7 len) := by
  revert len; unfold Statement; decide

theorem init : Statement .init := by unfold Statement; decide

theorem poll : Statement .poll := by unfold Statement; decide

theorem data (d : Byte) : Statement (.data d) := by
  intro _; simp [opcodeTable, mnemonicOf, formatOf, encode, TableRow.covers]

theorem execNoneOpcode0 (length : Len) : Statement (.execNoneOpcode0 length) := by
  revert length; unfold Statement; decide

theorem execNoneOpcode1 (length : Len) : Statement (.execNoneOpcode1 length) := by
  revert length; unfold Statement; decide

theorem execSetCursor : Statement .execSetCursor := by unfold Statement; decide

theorem execSetCursorMalformed (length : Len) : Statement (.execSetCursorMalformed length) := by
  revert length; unfold Statement; decide

theorem execLcdWrite (length : Len) : Statement (.execLcdWrite length) := by
  revert length; unfold Statement; decide

theorem execLcdWriteMalformed (length : Len) : Statement (.execLcdWriteMalformed length) := by
  revert length; unfold Statement; decide

theorem execLcdClear (length : Len) : Statement (.execLcdClear length) := by
  revert length; unfold Statement; decide

theorem execSetLeds : Statement .execSetLeds := by unfold Statement; decide

theorem execSetLedsMalformed (length : Len) : Statement (.execSetLedsMalformed length) := by
  revert length; unfold Statement; decide

theorem execBeep : Statement .execBeep := by unfold Statement; decide

theorem execBeepDefault (length : Len) : Statement (.execBeepDefault length) := by
  revert length; unfold Statement; decide

theorem execInit (length : Len) : Statement (.execInit length) := by
  revert length; unfold Statement; decide

end Sys2Proof.Laws.RowOfEncoding
end

