-- ==== Sys2Proof/Laws/Queue.lean ====
section
/-! SUPPORT. The queue as a list: how long it is, what it depends on, and what a push and a pop do to it. -/

namespace Sys2Proof.Machine

theorem liveFrames_length (s : State) : (liveFrames s).length = (size s).toNat := by simp [liveFrames]

/-- The queue depends on the slots and the two indices alone. -/
theorem liveFrames_congr {s t : State} (hs : t.slots = s.slots) (hh : t.head = s.head) (ht : t.tail = s.tail) :
    liveFrames t = liveFrames s := by
  simp [liveFrames, size, slotRead, hs, hh, ht]

/-- Equal indices: the queue is empty. -/
theorem liveFrames_of_empty {s : State} (h : s.head = s.tail) : liveFrames s = [] := by
  simp [liveFrames, size, h]

/-- A frame stored at `HEAD` with room, and `HEAD` moved past it: the queue has that frame appended. -/
theorem liveFrames_of_push {s t : State} {f : Frame} (room : s.head + 1#5 ≠ s.tail)
    (hs : t.slots = s.slots.set s.head.toNat f s.head.isLt) (hh : t.head = s.head + 1#5) (ht : t.tail = s.tail) :
    liveFrames t = liveFrames s ++ [f] := by
  have hsize : (size t).toNat = (size s).toNat + 1 := by
    simp only [size, hh, ht]
    bv_omega
  unfold liveFrames
  rw [hsize, List.range_succ, List.map_append]
  congr 1
  · refine List.map_congr_left fun k hk => ?_
    have hk' : k < (s.head - s.tail).toNat := List.mem_range.1 hk
    simp only [slotRead, hs, ht]
    rw [Vector.getElem_set_ne]
    intro e
    have hi : s.head = s.tail + BitVec.ofNat 5 k := BitVec.eq_of_toNat_eq e
    have hd : (s.tail + BitVec.ofNat 5 k - s.tail).toNat = k % 32 := by simp
    rw [hi, hd] at hk'
    have := (s.head - s.tail).isLt
    omega
  · have hi : s.tail + BitVec.ofNat 5 (size s).toNat = s.head := by
      rw [BitVec.ofNat_toNat, BitVec.setWidth_eq, size, BitVec.add_comm, BitVec.sub_add_cancel]
    simp only [List.map_cons, List.map_nil, slotRead, hs, ht]
    rw [Vector.getElem_set, if_pos (by rw [hi])]

/-- `TAIL` moved past the oldest frame of a queue that is not empty: the queue was that frame and then what is left. -/
theorem liveFrames_of_pop {s t : State} (nonempty : s.head ≠ s.tail)
    (hs : t.slots = s.slots) (hh : t.head = s.head) (ht : t.tail = s.tail + 1#5) :
    liveFrames s = slotRead s s.tail :: liveFrames t := by
  have hsize : (size s).toNat = (size t).toNat + 1 := by
    simp only [size, hh, ht]
    bv_omega
  unfold liveFrames
  rw [hsize, List.range_succ_eq_map, List.map_cons, List.map_map]
  congr 1
  · simp
  · refine List.map_congr_left fun k _ => ?_
    simp only [Function.comp, slotRead, hs, ht]
    congr 2
    rw [BitVec.add_assoc]
    congr 1
    simp [Nat.succ_eq_add_one, BitVec.ofNat_add, BitVec.add_comm]

end Sys2Proof.Machine
end

