-- ==== Sys2Proof/Tests/Slice0.lean ====
section
/-! SUPPORT. Own tests: the encodings written out bit by bit from the spec, ill-formed terms, single steps with the results of
spec/95_test_vectors.md (its label in each comment), and a witness for the hypotheses of each statement. -/

namespace Sys2Proof.Tests

open Sys2Proof.Machine

/-! ## Well-formedness: each check refuses an ill-formed term -/

theorem test_refuses_status_rsvd_2 : (Instr.getStatusRsvd 2#5).wellFormed = false := by decide
theorem test_refuses_rsvd7_30 : (Instr.rsvd7 30#5).wellFormed = false := by decide
theorem test_refuses_set_cursor_malformed_1 : (Instr.execSetCursorMalformed 1#5).wellFormed = false := by decide
theorem test_refuses_lcd_write_0 : (Instr.execLcdWrite 0#5).wellFormed = false := by decide
theorem test_refuses_lcd_write_malformed_31 : (Instr.execLcdWriteMalformed 31#5).wellFormed = false := by decide
theorem test_refuses_set_leds_malformed_1 : (Instr.execSetLedsMalformed 1#5).wellFormed = false := by decide
theorem test_refuses_beep_default_3 : (Instr.execBeepDefault 3#5).wellFormed = false := by decide

/-! ## Decoding: one word of every constructor, written from 30_encoding.md R84 and R92 -/

theorem test_decode_read : decode .command 0b000_11111#8 = .read 31#5 := by decide
theorem test_decode_status_buttons : decode .command 0b001_00000#8 = .getStatusButtons := by decide
theorem test_decode_status_encoder : decode .command 0b001_00001#8 = .getStatusEncoder := by decide
theorem test_decode_status_qdepth : decode .command 0b001_00010#8 = .getStatusQdepth := by decide
theorem test_decode_status_rsvd : decode .command 0b001_00011#8 = .getStatusRsvd 3#5 := by decide
theorem test_decode_set_cursor : decode .command 0b010_00001#8 = .setCursor 1#5 := by decide
theorem test_decode_lcd_write : decode .command 0b011_00011#8 = .lcdWrite 3#5 := by decide
theorem test_decode_lcd_clear : decode .command 0b100_00000#8 = .lcdClear 0#5 := by decide
theorem test_decode_set_leds : decode .command 0b101_00001#8 = .setLeds 1#5 := by decide
theorem test_decode_beep : decode .command 0b110_00011#8 = .beep 3#5 := by decide
theorem test_decode_rsvd7 : decode .command 0b111_11101#8 = .rsvd7 29#5 := by decide
theorem test_decode_init : decode .command 0b111_11110#8 = .init := by decide
theorem test_decode_poll : decode .command 0b111_11111#8 = .poll := by decide
theorem test_decode_data : decode .payload 0b111_11110#8 = .data 0xFE#8 := by decide
theorem test_decode_exec_opcode_0 : decode .frameHeader 0b000_00001#8 = .execNoneOpcode0 1#5 := by decide
theorem test_decode_exec_opcode_1 : decode .frameHeader 0b001_11111#8 = .execNoneOpcode1 31#5 := by decide
theorem test_decode_exec_set_cursor : decode .frameHeader 0b010_00001#8 = .execSetCursor := by decide
theorem test_decode_exec_set_cursor_malformed : decode .frameHeader 0b010_00010#8 = .execSetCursorMalformed 2#5 := by decide
theorem test_decode_exec_lcd_write : decode .frameHeader 0b011_11111#8 = .execLcdWrite 31#5 := by decide
theorem test_decode_exec_lcd_write_malformed : decode .frameHeader 0b011_00000#8 = .execLcdWriteMalformed 0#5 := by decide
theorem test_decode_exec_lcd_clear : decode .frameHeader 0b100_00101#8 = .execLcdClear 5#5 := by decide
theorem test_decode_exec_set_leds : decode .frameHeader 0b101_00001#8 = .execSetLeds := by decide
theorem test_decode_exec_set_leds_malformed : decode .frameHeader 0b101_00000#8 = .execSetLedsMalformed 0#5 := by decide
theorem test_decode_exec_beep : decode .frameHeader 0b110_00011#8 = .execBeep := by decide
theorem test_decode_exec_beep_default : decode .frameHeader 0b110_00100#8 = .execBeepDefault 4#5 := by decide
theorem test_decode_exec_init : decode .frameHeader 0b111_00000#8 = .execInit 0#5 := by decide

theorem test_decode_bytes_none : (decodeBytes .command []).isOk = false := by decide
theorem test_table_word : decodeTableWord 8 0x41 = some (.setCursor 1#5) := by decide

/-! ## Single steps -/

/-- The state a step leaves, if it leaves one. -/
def after (o : Host.Outcome State Fault Refusal) : Option State :=
  match o with
  | .next t => some t
  | .fault _ => none
  | .refused _ => none

/-- The reset state with one event scripted. -/
def scripted (e : Event) : State := { State.reset with script := [e] }

/-- The reset state with a frame in `DREG` and an execution scripted. -/
def holding (op : Opcode) (len : Len) (p : List Byte) : State :=
  { scripted .exec with dreg := ⟨op, len, p⟩, dvalid := true }

/-- The outputs of one step. -/
def outs (s : State) : Option (List Output) := (after (step s)).map (outputsBetween s)

/-- Mid-frame: the decoder has taken `63 41` (F11). -/
def midFrame (e : Event) : State :=
  { scripted e with pos := 2#6, toread := 2#5, cur := ⟨.lcdWrite, 3#5, [0x41#8]⟩ }

/-- Indices at given places. -/
def ring (h t : SlotIndex) (e : Event) : State := { scripted e with head := h, tail := t }


/-- Q2 -/
theorem test_size_wraps : size (ring 3#5 30#5 .pop) = 5#5 := by decide

/-- Q3: the parenthesised test -/
theorem test_full_at_31_0 : isFull (ring 31#5 0#5 .pop) = true := by decide

/-- Q4 -/
theorem test_full_at_30_31 : isFull (ring 30#5 31#5 .pop) = true := by decide

/-- Q5 -/
theorem test_not_full_at_30_0 : isFull (ring 30#5 0#5 .pop) = false := by decide

/-- Q7 -/
theorem test_push_wraps_head : (after (pushBack ⟨.lcdClear, 0#5, []⟩ (ring 31#5 5#5 .pop))).map (fun s => (s.head, slotRead s 31#5)) =
    some (0#5, ⟨.lcdClear, 0#5, []⟩) := by decide

/-- Q8 -/
theorem test_pop_wraps_tail : (after (step (ring 1#5 31#5 .pop))).map (fun s => (s.head, s.tail, s.dvalid)) = some (1#5, 0#5, true) := by decide

/-- Q11 -/
theorem test_push_full_refused : after (pushBack Frame.zero (ring 31#5 0#5 .pop)) = none := by decide

/-- F2 -/
theorem test_read_takes_no_payload : (after (step (scripted (.rx 0x1F#8)))).map (fun s => (s.pos, s.toread, s.head)) = some (0#6, 31#5, 0#5) := by decide

/-- F4 -/
theorem test_lcd_clear_completes_at_once : (after (step (scripted (.rx 0x80#8)))).map (fun s => (s.pos, s.head, slotRead s 0#5)) =
    some (0#6, 1#5, ⟨.lcdClear, 0#5, []⟩) := by decide

/-- F12, its first byte -/
theorem test_lcd_clear_with_payload_waits : (after (step (scripted (.rx 0x85#8)))).map (fun s => (s.pos, s.toread, s.cur)) =
    some (1#6, 5#5, ⟨.lcdClear, 5#5, []⟩) := by decide

/-- F6 -/
theorem test_set_cursor_empty_is_queued : (after (step (scripted (.rx 0x40#8)))).map (fun s => (s.pos, slotRead s 0#5)) =
    some (0#6, ⟨.setCursor, 0#5, []⟩) := by decide

/-- S3, its first row -/
theorem test_lcd_write_starts : (after (step (scripted (.rx 0x63#8)))).map (fun s => (s.pos, s.toread, s.cur, s.head)) =
    some (1#6, 3#5, ⟨.lcdWrite, 3#5, []⟩, 0#5) := by decide

/-- F7, its first byte -/
theorem test_set_leds_starts : (after (step (scripted (.rx 0xA1#8)))).map (fun s => (s.pos, s.toread, s.cur)) =
    some (1#6, 1#5, ⟨.setLeds, 1#5, []⟩) := by decide

/-- F9 -/
theorem test_beep_empty_is_queued : (after (step (scripted (.rx 0xC0#8)))).map (fun s => (s.pos, slotRead s 0#5)) = some (0#6, ⟨.beep, 0#5, []⟩) := by decide

/-- S3, its third row -/
theorem test_data_is_stored : (after (step (midFrame (.rx 0x42#8)))).map (fun s => (s.pos, s.toread, s.cur.payload)) =
    some (3#6, 1#5, [0x41#8, 0x42#8]) := by decide

/-- S3, its fourth row -/
theorem test_last_data_completes : (after (step { midFrame (.rx 0x43#8) with toread := 1#5, cur := ⟨.lcdWrite, 3#5, [0x41#8, 0x42#8]⟩ })).map
    (fun s => (s.pos, s.head, slotRead s 0#5)) = some (0#6, 1#5, ⟨.lcdWrite, 3#5, [0x41#8, 0x42#8, 0x43#8]⟩) := by decide

/-- F15 -/
theorem test_reserved7_ignored : (after (step (scripted (.rx 0xFD#8)))).map (fun s => (s.pos, s.toread, s.head)) = some (0#6, 29#5, 0#5) := by decide

/-- S5 -/
theorem test_buttons_reply : outs { scripted (.rx 0x20#8) with btn := 0x05#8, btnIn := 0x12#8 } = some [.reply 0x05#8] := by decide

/-- G4 -/
theorem test_encoder_reply_minus_one : outs { scripted (.rx 0x21#8) with enc := BitVec.ofInt 16 (-1) } = some [.encoderReset, .reply 0xFF#8] := by decide

/-- G5 -/
theorem test_encoder_reply_300 : outs { scripted (.rx 0x21#8) with enc := 300#16 } = some [.encoderReset, .reply 0x2C#8] := by decide

/-- G5 and G6 under SATURATE -/
theorem test_encoder_saturates : narrowEncoder .saturate 300#16 = 0x7F#8 ∧ narrowEncoder .saturate (BitVec.ofInt 16 (-129)) = 0x80#8 := by decide

/-- G10 -/
theorem test_qdepth_reply_full : outs (ring 31#5 0#5 (.rx 0x22#8)) = some [.reply 0x1F#8] := by decide

/-- G14 -/
theorem test_status_rsvd_silent : (after (step (scripted (.rx 0x3F#8)))).map (fun s => (s.toread, outputsBetween (scripted (.rx 0x3F#8)) s)) =
    some (31#5, []) := by decide

/-- G16 -/
theorem test_init_counts_at_threshold : (after (step (ring 21#5 0#5 (.rx 0xFE#8)))).map (fun s => (size s, s.busy, s.toread)) = some (22#5, true, 30#5) := by decide

/-- G17 -/
theorem test_init_dropped_when_full : (after (step { ring 31#5 0#5 (.rx 0xFE#8) with busy := true })).map (fun s => (s.head, s.tail, s.busy)) =
    some (31#5, 0#5, true) := by decide

/-- G21 -/
theorem test_poll_lowers_busy : (after (step { scripted (.rx 0xFF#8) with busy := true, dvalid := true })).map (fun s => s.busy) = some false := by decide

/-- G19 -/
theorem test_poll_leaves_busy : (after (step { ring 4#5 0#5 (.rx 0xFF#8) with busy := true })).map (fun s => s.busy) = some true := by decide

/-- B1, its last step -/
theorem test_no_busy_at_21 : (after (step (ring 20#5 0#5 (.rx 0x80#8)))).map (fun s => (size s, s.busy)) = some (21#5, false) := by decide

/-- X3 -/
theorem test_exec_set_cursor : outs (holding .setCursor 1#5 [0xFF#8]) = some [.displaySetCursor 7#3 31#5] := by decide

/-- X5 -/
theorem test_exec_set_cursor_malformed : outs (holding .setCursor 2#5 [0x25#8, 0x26#8]) = some [] := by decide

/-- X6 -/
theorem test_exec_lcd_write : outs (holding .lcdWrite 3#5 [0x41#8, 0x42#8, 0x43#8]) =
    some [.displayWrite 0x41#8, .displayWrite 0x42#8, .displayWrite 0x43#8] := by decide

/-- X7 -/
theorem test_exec_lcd_write_empty : outs (holding .lcdWrite 0#5 []) = some [] := by decide

/-- X11 -/
theorem test_exec_lcd_clear : outs (holding .lcdClear 5#5 [1#8, 2#8, 3#8, 4#8, 5#8]) = some [.displayClear] := by decide

/-- X12 -/
theorem test_exec_set_leds : outs (holding .setLeds 1#5 [0x0F#8]) = some [.displaySetBacklight 0x0F#8] := by decide

/-- X14 -/
theorem test_exec_set_leds_malformed : outs (holding .setLeds 2#5 [0x0F#8, 0x01#8]) = some [] := by decide

/-- X17: big-endian -/
theorem test_exec_beep : outs (holding .beep 3#5 [0xFF#8, 0x01#8, 0x00#8]) = some [.buzz 255 256] := by decide

/-- X20 -/
theorem test_exec_beep_default : outs (holding .beep 4#5 [1#8, 2#8, 3#8, 4#8]) =
    some [.buzz Config.beepDefaultDuration Config.beepDefaultFreq] := rfl

/-- R201 -/
theorem test_exec_opcode_0_silent : outs (holding .read 0#5 []) = some [] := by decide

/-- R201 -/
theorem test_exec_opcode_1_silent : outs (holding .getStatus 0#5 []) = some [] := by decide

/-- the vector of 95_test_vectors.md section 2.6 -/
theorem test_exec_init_resets : (after (step { holding .other 0#5 [] with
      pos := 2#6, toread := 2#5, cur := ⟨.lcdWrite, 3#5, [0x41#8]⟩, head := 3#5, tail := 2#5, busy := true, btn := 0x12#8,
      enc := 9#16 })).map
    (fun s => (s.pos, s.toread, s.cur, s.head, s.tail, s.busy, s.btn, s.dvalid, s.enc)) =
    some (0#6, 0#5, Frame.zero, 0#5, 0#5, false, 0#8, false, 0#16) := rfl

/-- the example of 44_dispatch.md R204 -/
theorem test_refresh_samples : (after (step { scripted .refresh with btnIn := 0x12#8 })).map (fun s => s.btn) = some 0x12#8 := by decide

/-- G7, its movement -/
theorem test_encoder_moves : (after (step { scripted (.encMove (-5)) with enc := 2#16 })).map (fun s => s.enc) = some 0xFFFD#16 := by decide

/-- 00_scope.md R8 -/
theorem test_step_records : (after (step (scripted (.rx 0x20#8)))).map (fun s => s.trace) =
    some [.took (.rx 0x20#8), .output (.reply 0#8), .busyLevel false] := by decide

/-- the fetch of a table word after reset -/
theorem test_fetch_word_runs : (after (step (State.reset.withFetchWord 8 0x63))).map (fun s => s.cur) = some ⟨.lcdWrite, 3#5, []⟩ := by decide

/-! ## Witnesses: the hypotheses of the statements can be met -/

theorem witness_decode_of_encode : (Instr.rsvd7 29#5).wellFormed = true ∧ (Instr.getStatusRsvd 3#5).wellFormed = true ∧
    (Instr.execLcdWrite 31#5).wellFormed = true ∧ (Instr.execLcdWriteMalformed 0#5).wellFormed = true ∧
    (Instr.execBeepDefault 4#5).wellFormed = true := by decide

theorem witness_narrowing_in_range : ∃ v w : BitVec 16,
    (-128 ≤ v.toInt ∧ v.toInt ≤ 127 ∧ v.toInt = -128) ∧ (-128 ≤ w.toInt ∧ w.toInt ≤ 127 ∧ w.toInt = 127) :=
  ⟨0xFF80#16, 127#16, by decide, by decide⟩

theorem witness_narrowing_outside : ∃ v w : BitVec 16, 127 < v.toInt ∧ w.toInt < -128 :=
  ⟨128#16, 0xFF7F#16, by decide, by decide⟩

theorem witness_read_between_and_within_frames :
    (scripted (.rx 0x00#8)).pos = 0#6 ∧ (midFrame (.rx 0x00#8)).pos ≠ 0#6 := by decide

theorem witness_nonzero_length : (1#5 : Len) ≠ 0#5 ∧ (31#5 : Len) ≠ 0#5 := by decide

theorem witness_framed_command : (Instr.setCursor 31#5, Opcode.setCursor) ∈
    [(Instr.setCursor 31#5, Opcode.setCursor), (.lcdWrite 31#5, .lcdWrite), (.lcdClear 31#5, .lcdClear),
      (.setLeds 31#5, .setLeds), (.beep 31#5, .beep)] := by decide

theorem witness_poll_empty_and_not : State.reset.head = State.reset.tail ∧ (ring 1#5 0#5 .pop).head ≠ (ring 1#5 0#5 .pop).tail := by
  decide

theorem witness_data : (midFrame .pop).pos ≠ 0#6 ∧ (midFrame .pop).toread ≠ 1#5 ∧
    ∃ s : State, s.pos ≠ 0#6 ∧ s.toread = 1#5 ∧ DecoderInv s :=
  ⟨by decide, by decide, { midFrame .pop with pos := 31#6, toread := 1#5, cur := ⟨.lcdWrite, 31#5, List.replicate 30 0#8⟩ },
    by decide, by decide, by decide⟩

theorem witness_full_and_not : isFull (ring 31#5 0#5 .pop) = true ∧ isFull (ring 30#5 0#5 .pop) = false ∧
    isEmpty State.reset = true ∧ isEmpty (ring 31#5 0#5 .pop) = false := by decide

theorem witness_payloads : (holding .setCursor 1#5 [0x25#8]).dreg.payload = 0x25#8 :: [] ∧
    (holding .setLeds 1#5 [0x0F#8]).dreg.payload = 0x0F#8 :: [] ∧
    (holding .lcdWrite 1#5 [0x41#8]).dreg.payload.length = (1#5 : Len).toNat ∧
    (holding .lcdWrite 31#5 (List.replicate 31 0x41#8)).dreg.payload.length = (31#5 : Len).toNat ∧
    (holding .beep 3#5 [0x64#8, 0x03#8, 0xE8#8]).dreg.payload = 0x64#8 :: 0x03#8 :: 0xE8#8 :: [] := by decide

theorem witness_step_runs : (scripted (.rx 0x20#8)).script = .rx 0x20#8 :: [] ∧
    (holding .lcdClear 0#5 []).script = .exec :: [] ∧ (holding .lcdClear 0#5 []).dvalid = true := by decide

theorem witness_other_steps :
    ((ring 1#5 0#5 .pop).script = .pop :: [] ∧ (ring 1#5 0#5 .pop).dvalid = false ∧ (ring 1#5 0#5 .pop).head ≠ (ring 1#5 0#5 .pop).tail) ∧
    (scripted .refresh).script = .refresh :: [] ∧ (scripted (.encMove (-1))).script = .encMove (-1) :: [] ∧
    (scripted (.btnChange 0xFF#8)).script = .btnChange 0xFF#8 :: [] ∧ (scripted .rst).script = .rst :: [] := by decide

theorem witness_disabled_steps : State.reset.script = [] ∧
    ((scripted .pop).script = .pop :: [] ∧ (scripted .pop).head = (scripted .pop).tail) ∧
    ({ ring 1#5 0#5 .pop with dvalid := true }.script = .pop :: [] ∧ { ring 1#5 0#5 .pop with dvalid := true }.dvalid = true) ∧
    ((scripted .exec).script = .exec :: [] ∧ (scripted .exec).dvalid = false) := by decide

theorem witness_enabled : enabled .pop (ring 1#5 0#5 .pop) = true ∧ enabled .exec (holding .lcdClear 0#5 []) = true ∧
    enabled .rst State.reset = true := by decide

/-- A state in mid-frame, with a queued frame, a held frame and a byte to come, that satisfies the invariant and steps. -/
theorem witness_invariant_and_step : ∃ s t : State, Inv s ∧ step s = .next t ∧ s.pos ≠ 0#6 ∧ s.dvalid = true ∧ liveFrames s ≠ [] :=
  ⟨{ midFrame (.rx 0x42#8) with
      head := 1#5, slots := Vector.replicate 32 ⟨.lcdClear, 0#5, []⟩, dreg := ⟨.other, 0#5, []⟩, dvalid := true },
    _, by decide, rfl, by decide, by decide, by decide⟩

theorem witness_busy_long_queue : ∃ s t : State, BusyInv s ∧ 22 ≤ (size s).toNat ∧ step s = .next t :=
  ⟨{ ring 22#5 0#5 (.rx 0x80#8) with busy := true }, _, by decide, by decide, rfl⟩

/-- One witness for each clause of the ownership statement: a receive, a pop, an environment step, a refresh, a reset. -/
theorem witness_ownership :
    (isReceive (.rx 0x80#8) = true ∧ ∃ t, step (scripted (.rx 0x80#8)) = .next t) ∧
    (isReceive .pop = false ∧ isResetStep .pop (ring 1#5 0#5 .pop) = false ∧ ∃ t, step (ring 1#5 0#5 .pop) = .next t) ∧
    (isEnvironment (.encMove 1) = true ∧ ∃ t, step (scripted (.encMove 1)) = .next t) ∧
    (isEnvironment .refresh = false ∧ ∃ t, step (scripted .refresh) = .next t) ∧
    (isResetStep .exec (holding .other 0#5 []) = true ∧ ∃ t, step (holding .other 0#5 []) = .next t) :=
  ⟨⟨rfl, _, rfl⟩, ⟨rfl, rfl, _, rfl⟩, ⟨rfl, _, rfl⟩, ⟨rfl, _, rfl⟩, ⟨rfl, _, rfl⟩⟩

theorem witness_busy_falls : ∃ s t s' t' : State,
    (step s = .next t ∧ s.busy = true ∧ t.busy = false ∧ s.script = .rx 0xFF#8 :: [] ∧ s.pos = 0#6 ∧ s.head = s.tail) ∧
    (step s' = .next t' ∧ s'.busy = true ∧ t'.busy = false ∧ s'.script = .exec :: []) :=
  ⟨{ scripted (.rx 0xFF#8) with busy := true }, _, { holding .other 0#5 [] with busy := true }, _,
    ⟨rfl, rfl, rfl, rfl, rfl, rfl⟩, ⟨rfl, rfl, rfl, rfl⟩⟩

theorem witness_busy_rises : ∃ s t : State, step s = .next t ∧ s.busy = false ∧ t.busy = true :=
  ⟨ring 21#5 0#5 (.rx 0x80#8), _, rfl, rfl, rfl⟩

/-- The four cases of the queue statement occur. -/
theorem witness_queue : (∃ t, step State.reset = .next t) ∧ (∃ t, step (ring 30#5 0#5 (.rx 0x80#8)) = .next t) ∧
    (∃ t, step (ring 1#5 0#5 .pop) = .next t) ∧ ∃ t, step (ring 9#5 2#5 .rst) = .next t :=
  ⟨⟨_, rfl⟩, ⟨_, rfl⟩, ⟨_, rfl⟩, ⟨_, rfl⟩⟩

theorem witness_wire_frame : ∃ (s : State) (bs : List Byte), isFramed .lcdWrite = true ∧ bs.length = (3#5 : Len).toNat ∧
    s.pos = 0#6 ∧ s.script = .rx (packFields .lcdWrite 3#5) :: (bs.map Event.rx ++ []) :=
  ⟨{ State.reset with script := [.rx 0x63#8, .rx 0xFE#8, .rx 0xFF#8, .rx 0x20#8] }, [0xFE#8, 0xFF#8, 0x20#8],
    by decide, by decide, by decide, by decide⟩

/-- The full-ring branch, and the two ends of the range of the length. -/
theorem witness_wire_frame_full_and_ends :
    (isFull (ring 31#5 0#5 (.rx 0x80#8)) = true ∧ (ring 31#5 0#5 (.rx 0x80#8)).pos = 0#6 ∧
      (ring 31#5 0#5 (.rx 0x80#8)).script = .rx (packFields .lcdClear 0#5) :: (([] : List Byte).map Event.rx ++ []) ∧
      ([] : List Byte).length = (0#5 : Len).toNat) ∧
    ∃ (s : State) (bs : List Byte), isFull s = false ∧ s.pos = 0#6 ∧ bs.length = (31#5 : Len).toNat ∧
      s.script = .rx (packFields .beep 31#5) :: (bs.map Event.rx ++ []) :=
  ⟨by decide, { State.reset with script := .rx 0xDF#8 :: List.replicate 31 (.rx 0xFF#8) }, List.replicate 31 0xFF#8,
    by decide, by decide, by decide, by decide⟩

/-- 21 frames queued and `BUSY` low; then a frame with a payload, the INIT frame and nine others, the last of them lost. -/
theorem witness_guard_band : ∃ (s : State) (raising : Frame) (more : List Frame),
    (∀ f ∈ raising :: more, QueueableFrame f) ∧ s.pos = 0#6 ∧ s.busy = false ∧ (liveFrames s).length = 21 ∧ more.length = 10 ∧
    s.script = ((raising :: more).flatMap wireBytes).map Event.rx ++ [] :=
  ⟨{ ring 21#5 0#5 .pop with script := [.rx 0x41#8, .rx 0x25#8, .rx 0xFE#8] ++ List.replicate 9 (.rx 0x80#8) },
    ⟨.setCursor, 1#5, [0x25#8]⟩, ⟨.other, 0#5, []⟩ :: List.replicate 9 ⟨.lcdClear, 0#5, []⟩,
    by decide, by decide, by decide, by decide, by decide, by decide⟩

theorem witness_received_bytes :
    (∃ t, (scripted (.rx 0x41#8)).pos = 0#6 ∧ step (scripted (.rx 0x41#8)) = .next t) ∧
    (∃ t, (midFrame (.rx 0xFF#8)).pos ≠ 0#6 ∧ (midFrame (.rx 0xFF#8)).toread ≠ 1#5 ∧ step (midFrame (.rx 0xFF#8)) = .next t) ∧
    ∃ s t : State, s.pos ≠ 0#6 ∧ s.toread = 1#5 ∧ s.script = .rx 0xFF#8 :: [] ∧ step s = .next t :=
  ⟨⟨_, by decide, rfl⟩, ⟨_, by decide, by decide, rfl⟩,
    { midFrame (.rx 0xFF#8) with toread := 1#5 }, _, by decide, by decide, by decide, rfl⟩

theorem witness_malformed : (holding .setCursor 2#5 [1#8, 2#8]).script = .exec :: [] ∧
    (holding .setCursor 2#5 [1#8, 2#8]).dvalid = true ∧ isMalformed .setCursor 2#5 = true ∧
    isMalformed .setCursor 1#5 = false := by decide

theorem witness_outputs : ∃ (s t : State) (o : Output), step s = .next t ∧ o ∈ outputsBetween s t :=
  ⟨scripted (.rx 0x20#8), _, .reply 0#8, rfl, by decide⟩

theorem witness_recorded : ∃ t, (scripted .rst).script = .rst :: [] ∧ enabled .rst (scripted .rst) = true ∧
    step (scripted .rst) = .next t := ⟨_, by decide, by decide, rfl⟩

/-- Received commands are steps from which `BUSY` and the slots cannot be seen. -/
theorem witness_busy_unread : ∃ t, step { scripted (.rx 0x22#8) with busy := true } = .next t := ⟨_, rfl⟩

theorem witness_toread_dead : ∃ t, (scripted (.rx 0x63#8)).pos = 0#6 ∧ step (scripted (.rx 0x63#8)) = .next t ∧ t.pos ≠ 0#6 :=
  ⟨_, by decide, rfl, by decide⟩

theorem witness_dreg_dead : ∃ t, (ring 1#5 0#5 .pop).dvalid = false ∧ step (ring 1#5 0#5 .pop) = .next t ∧ t.dvalid = true :=
  ⟨_, by decide, rfl, by decide⟩

/-- The same queue in slots that differ elsewhere. -/
theorem witness_slots_unread : ∃ (s t : State) (sl : Vector Frame Config.nSlots), sl ≠ s.slots ∧ liveFrames s ≠ [] ∧
    liveFrames { s with slots := sl } = liveFrames s ∧ step s = .next t :=
  ⟨ring 1#5 0#5 .pop, _, (Vector.replicate 32 Frame.zero).set 5 ⟨.beep, 0#5, []⟩, by decide, by decide, by decide, rfl⟩

end Sys2Proof.Tests
end

section
/-! The fields of a command byte as numbers: what a shift, a mask and a concatenation of bits are in arithmetic. -/

namespace Sys2Proof

/-- The opcode field is the byte shifted right by five (30_encoding.md R81); the field's three bits lose nothing of it. -/
theorem opcodeField_toNat (b : Byte) : (opcodeField b).toNat = b.toNat / 32 := by
  have hfits : b.toNat / 2 ^ 5 < 2 ^ 3 := Nat.div_lt_of_lt_mul b.isLt
  rw [opcodeField, BitVec.extractLsb'_toNat, Nat.shiftRight_eq_div_pow]
  exact Nat.mod_eq_of_lt hfits

/-- The length field is the byte's low five bits (30_encoding.md R81). -/
theorem lenField_toNat (b : Byte) : (lenField b).toNat = b.toNat % 32 := by
  rw [lenField, BitVec.extractLsb'_toNat, Nat.shiftRight_zero]

/-- Packing puts the opcode above the length, and the two do not overlap, so their bits add up (30_encoding.md R81). -/
theorem packFields_toNat (op : Opcode) (len : Len) :
    (packFields op len).toNat = (opcodeBits op).toNat * 32 + len.toNat := by
  rw [packFields, BitVec.toNat_append, ← Nat.shiftLeft_add_eq_or_of_lt len.isLt, Nat.shiftLeft_eq]

/-- Settles O1, by the value of each field and of the packed byte. -/
theorem commandByteFieldsAndPacking : Obligations.CommandByteFieldsAndPacking :=
  ⟨fun b => ⟨opcodeField_toNat b, lenField_toNat b⟩, packFields_toNat⟩

end Sys2Proof
end

section
/-! The ring's queries as numbers: what the size, the empty test and the full test say about the two indices. -/

namespace Sys2Proof.Machine

/-- The difference of the indices in 5 bits is their difference in the integers, taken modulo the slot count
(40_ringbuffer.md R110). -/
theorem size_toNat_eq_emod (s : State) :
    ((size s).toNat : Int) = ((s.head.toNat : Int) - (s.tail.toNat : Int)) % 32 := by
  have hhead := s.head.isLt
  have htail := s.tail.isLt
  rw [size, BitVec.toNat_sub]
  omega

/-- The mask alone keeps the next index within 5 bits: no bit is lost by narrowing after it (40_ringbuffer.md R112). -/
theorem nextIndex_toNat (i : SlotIndex) : (nextIndex i).toNat = (i.toNat + 1) &&& 31 := by
  have hfits : (i.toNat + 1) &&& 31 < 2 ^ 5 := Nat.lt_succ_of_le Nat.and_le_right
  rw [nextIndex, BitVec.toNat_ofNat]
  exact Nat.mod_eq_of_lt hfits

/-- The full test compares the masked value (40_ringbuffer.md R112). -/
theorem isFull_iff_masked_next_eq_tail (s : State) :
    isFull s = true ↔ (s.head.toNat + 1) &&& 31 = s.tail.toNat := by
  rw [isFull, beq_iff_eq, ← BitVec.toNat_inj, nextIndex_toNat]

/-- Indices that differ by 0 modulo 32 are equal, as both are below 32 (40_ringbuffer.md R111). -/
theorem isEmpty_iff_size_eq_zero (s : State) : isEmpty s = true ↔ (size s).toNat = 0 := by
  rw [isEmpty_eq_true, size]
  bv_omega

/-- One below `TAIL` modulo 32 is 31 above it (40_ringbuffer.md R112). -/
theorem isFull_iff_size_eq_31 (s : State) : isFull s = true ↔ (size s).toNat = 31 := by
  rw [isFull_eq_true, size]
  bv_omega

/-- Settles O26, by the integer value of the size and the length of the queue. -/
theorem sizeIsTheIndexDifference : Obligations.SizeIsTheIndexDifference :=
  fun s => ⟨size_toNat_eq_emod s, liveFrames_length s⟩

/-- Settles O27, by one equivalence for each reading of the two tests. -/
theorem emptyAndFullInTermsOfSize : Obligations.EmptyAndFullInTermsOfSize :=
  fun s => ⟨isEmpty_eq_true s, isEmpty_iff_size_eq_zero s, isFull_iff_masked_next_eq_tail s, isFull_iff_size_eq_31 s⟩

/-- Settles O29: after `Clear()` both indices are 0, so they are equal and the queue is empty. -/
theorem clearEmptiesTheRing : Obligations.ClearEmptiesTheRing := by
  intro s
  have equalIndices : (clear s).head = (clear s).tail := by rw [clear_head, clear_tail]
  have sizeZero : size (clear s) = 0#5 := by rw [size, equalIndices, BitVec.sub_self]
  exact ⟨rfl, sizeZero, liveFrames_of_empty equalIndices⟩

end Sys2Proof.Machine
end

section
/-! The fields come back out of a packed byte: what decoding a command or a header that was packed reads. -/

namespace Sys2Proof

/-- The length lies below the opcode, so dividing by 32 drops it (30_encoding.md R81). -/
@[simp] theorem opcodeField_packFields (op : Opcode) (len : Len) :
    opcodeField (packFields op len) = opcodeBits op := by
  apply BitVec.eq_of_toNat_eq
  rw [opcodeField_toNat, packFields_toNat]
  have hlen := len.isLt
  omega

/-- The opcode adds a multiple of 32, which the low five bits do not see (30_encoding.md R81). -/
@[simp] theorem lenField_packFields (op : Opcode) (len : Len) : lenField (packFields op len) = len := by
  apply BitVec.eq_of_toNat_eq
  rw [lenField_toNat, packFields_toNat]
  have hlen := len.isLt
  omega

/-- The enumeration and its 3-bit field name each other (10_state.md R21). -/
@[simp] theorem opcodeOfBits_opcodeBits (op : Opcode) : opcodeOfBits (opcodeBits op) = op := by
  cases op <;> rfl

@[simp] theorem opcodeOf_packFields (op : Opcode) (len : Len) : opcodeOf (packFields op len) = op := by
  rw [opcodeOf, opcodeField_packFields, opcodeOfBits_opcodeBits]

/-- A command byte of opcode 0 is READ at every length (30_encoding.md R84). -/
theorem decode_command_read (len : Len) : decode .command (packFields .read len) = .read len := by
  simp only [decode, decodeCommand, opcodeOf_packFields, lenField_packFields]

end Sys2Proof
end

section
/-! READ, the framer's no-op: what a received byte is in either state of the framer, and what READ writes. -/

namespace Sys2Proof.Machine

/-- Between frames a received byte is a command (41_framing.md R130). -/
theorem fetchByte_of_pos_eq_zero {s : State} (b : Byte) (hpos : s.pos = 0#6) :
    fetchByte b s = decode .command b := if_pos hpos

/-- In mid-frame a received byte is payload, whatever its bits (20_memory.md R67). -/
theorem fetchByte_of_pos_ne_zero {s : State} (b : Byte) (hpos : s.pos ≠ 0#6) :
    fetchByte b s = .data b := if_neg hpos

/-- READ is the preamble's write of `TOREAD` and nothing more (41_framing.md R131). -/
theorem exec_read (len : Len) (s : State) : exec (.read len) s = .next (loadToread len s) := rfl

/-- Settles O8, by READ's effect and by what its byte is in each of the framer's two states. -/
theorem readIsANoOp : Obligations.ReadIsANoOp := by
  intro len s
  refine ⟨exec_read len s, fun between => ?_, fetchByte_of_pos_ne_zero _⟩
  rw [fetchByte_of_pos_eq_zero _ between, decode_command_read]

end Sys2Proof.Machine
end

section
/-! GET_STATUS: which sub-code a byte of opcode 1 names, and what the two sub-codes that only read the block reply. -/

namespace Sys2Proof

/-- A command byte of opcode 1 is told apart by its sub-code (42_status_control.md R161). -/
theorem decode_command_getStatus (sub : Len) : decode .command (packFields .getStatus sub) =
    if sub = 0#5 then .getStatusButtons
    else if sub = 1#5 then .getStatusEncoder
    else if sub = 2#5 then .getStatusQdepth
    else .getStatusRsvd sub := by
  simp only [decode, decodeCommand, opcodeOf_packFields, lenField_packFields]

end Sys2Proof

namespace Sys2Proof.Machine

/-- An immediate reply is no state: after the preamble it shows in the trace alone (42_status_control.md R160). -/
theorem reply_loadToread (v : Byte) (len : Len) (s : State) :
    reply v (loadToread len s) = { s with toread := len, trace := s.trace ++ [.output (.reply v)] } := rfl

theorem exec_getStatusButtons (s : State) :
    exec .getStatusButtons s = .next (reply s.btn (loadToread 0#5 s)) := rfl

theorem exec_getStatusQdepth (s : State) :
    exec .getStatusQdepth s = .next (reply (depthReply (size s)) (loadToread 2#5 s)) := rfl

/-- Extending a size to a byte keeps its value (30_encoding.md R94). -/
@[simp] theorem depthReply_toNat (n : SlotIndex) : (depthReply n).toNat = n.toNat :=
  BitVec.toNat_setWidth_of_le (by decide)

/-- Settles O9: the byte is sub-code 0 of opcode 1, and its reply is the mirror. -/
theorem statusButtonsRepliesTheMirror : Obligations.StatusButtonsRepliesTheMirror := by
  refine ⟨decode_command_getStatus 0#5, fun s => ?_⟩
  rw [exec_getStatusButtons, reply_loadToread]

/-- Settles O11: the byte is sub-code 2 of opcode 1, and its reply is the 5-bit size, which is the length of the queue. -/
theorem statusQdepthRepliesTheSize : Obligations.StatusQdepthRepliesTheSize := by
  refine ⟨decode_command_getStatus 2#5, fun s => ⟨depthReply (size s), ?_, ?_, ?_⟩⟩
  · rw [depthReply_toNat, liveFrames_length]
  · rw [depthReply_toNat]
    exact Nat.le_of_lt_succ (size s).isLt
  · rw [exec_getStatusQdepth, reply_loadToread]

end Sys2Proof.Machine
end

section
/-! The dispatcher's rules: what decoding a packed header reads, what a payload cell holds, and what taking a frame and emitting
for it writes. -/

namespace Sys2Proof

/-- A SET_CURSOR header is told apart by its length alone (30_encoding.md R92). -/
theorem decode_frameHeader_setCursor (n : Len) : decode .frameHeader (packFields .setCursor n) =
    if n = 1#5 then .execSetCursor else .execSetCursorMalformed n := by
  simp only [decode, decodeHeader, opcodeOf_packFields, lenField_packFields]

/-- An LCD_WRITE header is told apart by the contract on its length (30_encoding.md R92). -/
theorem decode_frameHeader_lcdWrite (n : Len) : decode .frameHeader (packFields .lcdWrite n) =
    if writableLength n then .execLcdWrite n else .execLcdWriteMalformed n := by
  simp only [decode, decodeHeader, opcodeOf_packFields, lenField_packFields]

/-- A SET_LEDS header is told apart by its length alone (30_encoding.md R92). -/
theorem decode_frameHeader_setLeds (n : Len) : decode .frameHeader (packFields .setLeds n) =
    if n = 1#5 then .execSetLeds else .execSetLedsMalformed n := by
  simp only [decode, decodeHeader, opcodeOf_packFields, lenField_packFields]

end Sys2Proof

namespace Sys2Proof.Machine

/-- A cell in which a byte was stored holds that byte, never the free value (10_state.md R20). -/
theorem payloadCell_of_lt {f : Frame} {k : Nat} (stored : k < f.payload.length) :
    payloadCell f k = f.payload[k] := by
  rw [payloadCell, ← List.getElem_eq_getD]

/-- Cell 0 holds the byte received first (10_state.md R20). -/
theorem payloadCell_zero_of_cons {f : Frame} {p0 : Byte} {rest : List Byte} (hp : f.payload = p0 :: rest) :
    payloadCell f 0 = p0 := by
  rw [payloadCell, hp, List.getD_cons_zero]

/-- Reading the stored cells in order gives back the payload. -/
theorem map_payloadCell_range (f : Frame) :
    (List.range f.payload.length).map (payloadCell f) = f.payload := by
  apply List.ext_getElem
  · rw [List.length_map, List.length_range]
  · intro k _ stored
    rw [List.getElem_map, List.getElem_range, payloadCell_of_lt stored]

/-- The row is the byte's quotient by 32, whose three bits lose nothing of it (30_encoding.md R87). -/
theorem cursorRow_eq_ofNat_div (b : Byte) : cursorRow b = BitVec.ofNat 3 (b.toNat / 32) := by
  have sameBits : cursorRow b = opcodeField b := rfl
  rw [sameBits, ← opcodeField_toNat, BitVec.ofNat_toNat, BitVec.setWidth_eq]

/-- The column is the byte's remainder by 32 (30_encoding.md R87). -/
theorem cursorColumn_eq_ofNat_mod (b : Byte) : cursorColumn b = BitVec.ofNat 5 (b.toNat % 32) := by
  have sameBits : cursorColumn b = lenField b := rfl
  rw [sameBits, ← lenField_toNat, BitVec.ofNat_toNat, BitVec.setWidth_eq]

/-- A frame that emits one operation changes `DVALID` and the trace alone (44_dispatch.md R193). -/
theorem emit_takeFrame (o : Output) (s : State) :
    emit o (takeFrame s) = { s with dvalid := false, trace := s.trace ++ [.output o] } := rfl

/-- A frame that emits several operations shows them in their order (44_dispatch.md R193). -/
theorem emitAll_takeFrame (os : List Output) (s : State) :
    emitAll os (takeFrame s) = { s with dvalid := false, trace := s.trace ++ os.map .output } := rfl

end Sys2Proof.Machine
end

section
/-! SET_CURSOR, LCD_WRITE and SET_LEDS frames: what each emits when its length meets the contract, and that it is only taken
when its length does not (44_dispatch.md R194). -/

namespace Sys2Proof.Machine

theorem exec_execSetCursor (s : State) : exec .execSetCursor s =
    .next (emit (.displaySetCursor (cursorRow (payloadCell s.dreg 0)) (cursorColumn (payloadCell s.dreg 0)))
      (takeFrame s)) := rfl

theorem exec_execSetCursorMalformed (n : Len) (s : State) :
    exec (.execSetCursorMalformed n) s = .next (takeFrame s) := rfl

theorem exec_execLcdWrite (n : Len) (s : State) : exec (.execLcdWrite n) s =
    .next (emitAll ((List.range n.toNat).map fun k => .displayWrite (payloadCell s.dreg k)) (takeFrame s)) := rfl

theorem exec_execLcdWriteMalformed (n : Len) (s : State) :
    exec (.execLcdWriteMalformed n) s = .next (takeFrame s) := rfl

theorem exec_execSetLeds (s : State) :
    exec .execSetLeds s = .next (emit (.displaySetBacklight (payloadCell s.dreg 0)) (takeFrame s)) := rfl

theorem exec_execSetLedsMalformed (n : Len) (s : State) :
    exec (.execSetLedsMalformed n) s = .next (takeFrame s) := rfl

/-- When the declared length is the number of bytes stored, the writes are the payload's bytes in order (44_dispatch.md R196). -/
theorem lcdWrites_eq_map_payload {n : Len} {f : Frame} (hlen : f.payload.length = n.toNat) :
    (List.range n.toNat).map (fun k => Output.displayWrite (payloadCell f k)) = f.payload.map .displayWrite := by
  calc (List.range n.toNat).map (fun k => Output.displayWrite (payloadCell f k))
      = ((List.range f.payload.length).map (payloadCell f)).map .displayWrite := by
        rw [hlen, List.map_map]; rfl
    _ = f.payload.map .displayWrite := by rw [map_payloadCell_range]

/-- Settles O19, by the header's decode and by row and column as the quotient and remainder of the byte in cell 0. -/
theorem setCursorFrameSetsTheCursor : Obligations.SetCursorFrameSetsTheCursor := by
  refine ⟨decode_frameHeader_setCursor, fun s p0 rest hp => ?_, exec_execSetCursorMalformed⟩
  rw [exec_execSetCursor, emit_takeFrame, payloadCell_zero_of_cons hp, cursorRow_eq_ofNat_div, cursorColumn_eq_ofNat_mod]

/-- Settles O20, by the header's decode and by reading the stored cells in order. -/
theorem lcdWriteFrameWritesItsBytes : Obligations.LcdWriteFrameWritesItsBytes := by
  refine ⟨decode_frameHeader_lcdWrite, fun n s hlen => ?_, exec_execLcdWriteMalformed⟩
  rw [exec_execLcdWrite, lcdWrites_eq_map_payload hlen, emitAll_takeFrame, List.map_map]
  rfl

/-- Settles O22, by the header's decode and by the byte in cell 0. -/
theorem setLedsFrameSetsTheMask : Obligations.SetLedsFrameSetsTheMask := by
  refine ⟨decode_frameHeader_setLeds, fun s p0 rest hp => ?_, exec_execSetLedsMalformed⟩
  rw [exec_execSetLeds, emit_takeFrame, payloadCell_zero_of_cons hp]

end Sys2Proof.Machine
end

section
/-! No fault and no halt: every instruction answers next, so every enabled step does, and so does every step of the machine
(60_exceptions.md R220). -/

namespace Sys2Proof.Machine

/-- The model has no way to stop on a fault (60_exceptions.md R220). -/
theorem no_fault : Fault → False := nofun

/-- An instruction changes the ring only through `Complete()`, which tests for room before it pushes, so the ring's refusal of
a push on a full ring is never reached (41_framing.md R140). -/
theorem exec_answers_next (i : Instr) (s : State) : ∃ t, exec i s = .next t := by
  cases i with
  | setCursor len | lcdWrite len | lcdClear len | setLeds len | beep len => exact ⟨_, frameStart_eq _ len s⟩
  | init => exact ⟨_, complete_eq _⟩
  | data d => exact ⟨_, receiveData_eq d s⟩
  | read | getStatusButtons | getStatusEncoder | getStatusQdepth | getStatusRsvd | rsvd7 | poll => exact ⟨_, rfl⟩
  | execNoneOpcode0 | execNoneOpcode1 | execSetCursor | execSetCursorMalformed | execLcdWrite | execLcdWriteMalformed
  | execLcdClear | execSetLeds | execSetLedsMalformed | execBeep | execBeepDefault | execInit => exact ⟨_, rfl⟩

/-- A pop is enabled only on a ring that holds a frame (44_dispatch.md R192). -/
theorem isEmpty_eq_false_of_enabled_pop {s : State} (he : enabled .pop s = true) : isEmpty s = false := by
  have guard : (!s.dvalid && !isEmpty s) = true := he
  simpa using (Bool.and_eq_true_iff.1 guard).2

/-- The ring's refusal of a pop on an empty ring is not reached either: the guard of `POP` rules it out. -/
theorem agentStep_answers_next (e : Event) (s : State) (he : enabled e s = true) : ∃ t, agentStep e s = .next t := by
  cases e with
  | rx b => exact exec_answers_next (fetchByte b s) s
  | exec => exact exec_answers_next (fetchFrame s) s
  | pop => exact ⟨_, popStep_eq (isEmpty_eq_false_of_enabled_pop he)⟩
  | refresh | encMove | btnChange | rst => exact ⟨_, rfl⟩

/-- No guard looks at the script or at the record of the run. -/
theorem enabled_recordStep_withScript (e : Event) (rest : List Event) (s : State) :
    enabled e (recordStep e (withScript rest s)) = enabled e s := by
  cases e <;> rfl

/-- Whether the script is empty, its next entry is passed over or that entry is taken, the machine goes on. -/
theorem step_answers_next (s : State) : ∃ t, step s = .next t := by
  cases hs : s.script with
  | nil => exact ⟨s, step_of_idle hs⟩
  | cons e rest =>
    cases he : enabled e s with
    | false => exact ⟨withScript rest s, step_of_disabled hs he⟩
    | true =>
      obtain ⟨u, hu⟩ := agentStep_answers_next e _ ((enabled_recordStep_withScript e rest s).trans he)
      exact ⟨recordBusy u, step_of_enabled hs he hu⟩

/-- Settles O36, by one theorem for each level: the instruction, the agent's step, the machine's step. -/
theorem everyStepSucceeds : Obligations.EveryStepSucceeds :=
  ⟨no_fault, exec_answers_next, agentStep_answers_next, step_answers_next⟩

end Sys2Proof.Machine
end

section
/-! Decode and encode agree: every word is its two packed fields, so both directions are read off the fields. -/

namespace Sys2Proof

/-- A 3-bit field and the opcode it names determine each other (10_state.md R21). -/
@[simp] theorem opcodeBits_opcodeOfBits (x : OpcodeField) : opcodeBits (opcodeOfBits x) = x := by
  revert x; decide

/-- A byte is nothing but its two fields (30_encoding.md R81). -/
theorem packFields_opcodeOf_lenField (b : Byte) : packFields (opcodeOf b) (lenField b) = b := by
  apply BitVec.eq_of_toNat_eq
  rw [packFields_toNat, opcodeOf, opcodeBits_opcodeOfBits, opcodeField_toNat, lenField_toNat]
  omega

/-- Within one opcode the words differ by their lengths. -/
theorem packFields_eq_iff (op : Opcode) (len len' : Len) : packFields op len = packFields op len' ↔ len = len' :=
  ⟨fun same => by rw [← lenField_packFields op len, same, lenField_packFields], fun same => by rw [same]⟩

/-- The opcode and the length that an instruction's word packs (30_encoding.md R84, R92); a payload byte packs whatever it
holds. -/
def wordFields : Instr → Opcode × Len
  | .read len => (.read, len)
  | .getStatusButtons => (.getStatus, 0#5)
  | .getStatusEncoder => (.getStatus, 1#5)
  | .getStatusQdepth => (.getStatus, 2#5)
  | .getStatusRsvd sub => (.getStatus, sub)
  | .setCursor len => (.setCursor, len)
  | .lcdWrite len => (.lcdWrite, len)
  | .lcdClear len => (.lcdClear, len)
  | .setLeds len => (.setLeds, len)
  | .beep len => (.beep, len)
  | .rsvd7 len => (.other, len)
  | .init => (.other, 30#5)
  | .poll => (.other, 31#5)
  | .data d => (opcodeOf d, lenField d)
  | .execNoneOpcode0 n => (.read, n)
  | .execNoneOpcode1 n => (.getStatus, n)
  | .execSetCursor => (.setCursor, 1#5)
  | .execSetCursorMalformed n => (.setCursor, n)
  | .execLcdWrite n => (.lcdWrite, n)
  | .execLcdWriteMalformed n => (.lcdWrite, n)
  | .execLcdClear n => (.lcdClear, n)
  | .execSetLeds => (.setLeds, 1#5)
  | .execSetLedsMalformed n => (.setLeds, n)
  | .execBeep => (.beep, 3#5)
  | .execBeepDefault n => (.beep, n)
  | .execInit n => (.other, n)

/-- The encoder packs those two fields: the match values of the table are the words of length 0, or whole words. -/
theorem encode_eq_packFields (i : Instr) : encode i = packFields (wordFields i).1 (wordFields i).2 := by
  cases i with
  | data d => exact (packFields_opcodeOf_lenField d).symm
  | getStatusButtons | getStatusEncoder | getStatusQdepth | init | poll => rfl
  | execSetCursor | execSetLeds | execBeep => rfl
  | read n | getStatusRsvd n | setCursor n | lcdWrite n | lcdClear n | setLeds n | beep n | rsvd7 n
  | execNoneOpcode0 n | execNoneOpcode1 n | execSetCursorMalformed n | execLcdWrite n | execLcdWriteMalformed n
  | execLcdClear n | execSetLedsMalformed n | execBeepDefault n | execInit n =>
    revert n; decide

/-- The wire decode by fields: opcode 1 is split by its sub-code, opcode 7 by the two sentinels (30_encoding.md R84). -/
theorem decode_command_packFields (op : Opcode) (len : Len) : decode .command (packFields op len) =
    match op with
    | .read => .read len
    | .getStatus =>
      if len = 0#5 then .getStatusButtons else if len = 1#5 then .getStatusEncoder
      else if len = 2#5 then .getStatusQdepth else .getStatusRsvd len
    | .setCursor => .setCursor len
    | .lcdWrite => .lcdWrite len
    | .lcdClear => .lcdClear len
    | .setLeds => .setLeds len
    | .beep => .beep len
    | .other => if len = 30#5 then .init else if len = 31#5 then .poll else .rsvd7 len := by
  have initWord : Config.initByte = packFields .other 30#5 := rfl
  have pollWord : Config.pollByte = packFields .other 31#5 := rfl
  cases op with
  | other =>
    simp only [decode, decodeCommand, opcodeOf_packFields, lenField_packFields, initWord, pollWord, packFields_eq_iff]
  | read | getStatus | setCursor | lcdWrite | lcdClear | setLeds | beep =>
    simp only [decode, decodeCommand, opcodeOf_packFields, lenField_packFields]

/-- The frame decode by fields: three opcodes are split by their length (30_encoding.md R92). -/
theorem decode_frameHeader_packFields (op : Opcode) (n : Len) : decode .frameHeader (packFields op n) =
    match op with
    | .read => .execNoneOpcode0 n
    | .getStatus => .execNoneOpcode1 n
    | .setCursor => if n = 1#5 then .execSetCursor else .execSetCursorMalformed n
    | .lcdWrite => if writableLength n then .execLcdWrite n else .execLcdWriteMalformed n
    | .lcdClear => .execLcdClear n
    | .setLeds => if n = 1#5 then .execSetLeds else .execSetLedsMalformed n
    | .beep => if n = 3#5 then .execBeep else .execBeepDefault n
    | .other => .execInit n := by
  cases op <;> simp only [decode, decodeHeader, opcodeOf_packFields, lenField_packFields]

/-- Settles O3: the decode by fields of the fields each instruction packs; where an opcode is split by its length, the range of
the operand rules the other instructions out. -/
theorem decodeOfEncodeIsTheInstruction : Obligations.DecodeOfEncodeIsTheInstruction := by
  intro i wf
  rw [encode_eq_packFields]
  cases i with
  | data d => exact congrArg Instr.data (packFields_opcodeOf_lenField d)
  | read | setCursor | lcdWrite | lcdClear | setLeds | beep => exact decode_command_packFields _ _
  | getStatusButtons | getStatusEncoder | getStatusQdepth | init | poll => exact decode_command_packFields _ _
  | getStatusRsvd sub =>
    have range : 3 ≤ sub.toNat := of_decide_eq_true wf
    have notButtons : sub ≠ 0#5 := by bv_omega
    have notEncoder : sub ≠ 1#5 := by bv_omega
    have notQdepth : sub ≠ 2#5 := by bv_omega
    exact (decode_command_packFields .getStatus sub).trans (by simp only [notButtons, notEncoder, notQdepth, if_false])
  | rsvd7 len =>
    have range : len.toNat ≤ 29 := of_decide_eq_true wf
    have notInit : len ≠ 30#5 := by bv_omega
    have notPoll : len ≠ 31#5 := by bv_omega
    exact (decode_command_packFields .other len).trans (by simp only [notInit, notPoll, if_false])
  | execNoneOpcode0 | execNoneOpcode1 | execLcdClear | execInit => exact decode_frameHeader_packFields _ _
  | execSetCursor | execSetLeds | execBeep => exact decode_frameHeader_packFields _ _
  | execSetCursorMalformed n | execSetLedsMalformed n | execBeepDefault n =>
    have range := of_decide_eq_true wf
    refine (decode_frameHeader_packFields _ n).trans (if_neg ?_)
    bv_omega
  | execLcdWrite n => exact (decode_frameHeader_packFields .lcdWrite n).trans (if_pos (of_decide_eq_true wf))
  | execLcdWriteMalformed n => exact (decode_frameHeader_packFields .lcdWrite n).trans (if_neg (of_decide_eq_true wf))

/-- What the decoder reads from a word of some fields: an operand in range, the word's own format, and the fields again. -/
theorem decode_packFields_spec (fmt : Format) (op : Opcode) (len : Len) :
    (decode fmt (packFields op len)).wellFormed = true ∧ formatOf (decode fmt (packFields op len)) = fmt ∧
      encode (decode fmt (packFields op len)) = packFields op len := by
  cases fmt with
  | payload => exact ⟨rfl, rfl, rfl⟩
  | command =>
    rw [decode_command_packFields, encode_eq_packFields]
    cases op with
    | read | setCursor | lcdWrite | lcdClear | setLeds | beep => exact ⟨rfl, rfl, rfl⟩
    | getStatus => revert len; decide
    | other => revert len; decide
  | frameHeader =>
    rw [decode_frameHeader_packFields, encode_eq_packFields]
    cases op with
    | read | getStatus | lcdClear | other => exact ⟨rfl, rfl, rfl⟩
    | setCursor | lcdWrite | setLeds | beep => revert len; decide

/-- Settles O4: a byte is its fields, and the word of those fields has the three properties. -/
theorem encodeOfDecodeIsTheByte : Obligations.EncodeOfDecodeIsTheByte := by
  intro fmt b
  rw [← packFields_opcodeOf_lenField b]
  exact decode_packFields_spec fmt _ _

/-- The rows of the opcode table of one format. -/
def rowsOf : Format → List TableRow
  | .command => commandRows
  | .payload => [⟨"DATA", .payload, 0x00#8, 0x00#8⟩]
  | .frameHeader => headerRows

theorem filter_opcodeTable_format (fmt : Format) : opcodeTable.filter (fun r => r.format == fmt) = rowsOf fmt := by
  cases fmt <;> rfl

/-- The rows of a format that cover a word of some fields: checked opcode by opcode on its 32 words, except for payload bytes,
whose one row has an empty mask. -/
theorem rowsOf_cover_once (fmt : Format) (op : Opcode) (len : Len) :
    ((rowsOf fmt).filter fun r => r.covers (packFields op len)).map TableRow.mnemonic =
      [mnemonicOf (decode fmt (packFields op len))] := by
  cases fmt with
  | payload => simp [rowsOf, TableRow.covers, decode, mnemonicOf]
  | command => revert len; cases op <;> decide
  | frameHeader => revert len; cases op <;> decide

/-- Settles O5: the table is first cut to the rows of the format, then searched by the fields of the byte. -/
theorem tableRowsCoverEachByteOnce : Obligations.TableRowsCoverEachByteOnce := by
  intro fmt b
  have cut : (opcodeTable.filter fun r => r.format == fmt && r.covers b) = (rowsOf fmt).filter fun r => r.covers b := by
    rw [← filter_opcodeTable_format, List.filter_filter]
    exact List.filter_congr fun r _ => Bool.and_comm _ _
  rw [cut, ← packFields_opcodeOf_lenField b]
  exact rowsOf_cover_once fmt _ _

end Sys2Proof
end

section
/-! The remaining encodings: words written out from the spec, operands assembled from bits, and the encoder's reply. -/

namespace Sys2Proof

/-- Settles O2: each word is decoded by evaluating the decoder on it. -/
theorem sampleWordsDecode : Obligations.SampleWordsDecode := by
  unfold Obligations.SampleWordsDecode
  decide

end Sys2Proof

namespace Sys2Proof.Machine

/-- The byte received first is the more significant one (20_memory.md R54). -/
theorem beepFrequency_eq (p1 p2 : Byte) : beepFrequency p1 p2 = p1.toNat * 256 + p2.toNat := by
  rw [beepFrequency, BitVec.toNat_append, ← Nat.shiftLeft_add_eq_or_of_lt p2.isLt, Nat.shiftLeft_eq]

/-- Settles O6: row and column are the two fields of a command byte. -/
theorem operandsAssembleFromBytes : Obligations.OperandsAssembleFromBytes :=
  ⟨fun b => ⟨opcodeField_toNat b, lenField_toNat b⟩, beepFrequency_eq, depthReply_toNat⟩

theorem narrowEncoder_truncate_toNat (v : BitVec 16) : (narrowEncoder .truncate v).toNat = v.toNat % 256 :=
  BitVec.toNat_setWidth 8 v

/-- The low 8 bits of a count that fits a signed byte are that byte (42_status_control.md R163). -/
theorem narrowEncoder_truncate_toInt {v : BitVec 16} (low : -128 ≤ v.toInt) (high : v.toInt ≤ 127) :
    (narrowEncoder .truncate v).toInt = v.toInt := by
  have bits := narrowEncoder_truncate_toNat v
  rw [BitVec.toInt_eq_toNat_cond] at low high ⊢
  rw [BitVec.toInt_eq_toNat_cond]
  have := v.isLt
  split at low <;> split <;> omega

theorem narrowEncoder_saturate_of_in_range {v : BitVec 16} (low : -128 ≤ v.toInt) (high : v.toInt ≤ 127) :
    narrowEncoder .saturate v = narrowEncoder .truncate v := by
  simp only [narrowEncoder, not_lt.2 low, not_lt.2 high, if_false]

theorem narrowEncoder_saturate_of_high {v : BitVec 16} (high : 127 < v.toInt) :
    narrowEncoder .saturate v = BitVec.ofInt 8 127 := by
  have notLow : ¬ v.toInt < -128 := by omega
  simp only [narrowEncoder, notLow, high, if_false, if_true]

theorem narrowEncoder_saturate_of_low {v : BitVec 16} (low : v.toInt < -128) :
    narrowEncoder .saturate v = BitVec.ofInt 8 (-128) := by
  simp only [narrowEncoder, low, if_true]

/-- Settles O7: in the range of a signed byte both policies truncate, and outside it saturation gives an end of the range. -/
theorem encoderNarrowingUnderBothPolicies : Obligations.EncoderNarrowingUnderBothPolicies := by
  refine ⟨fun p v low high => ?_, narrowEncoder_truncate_toNat, fun v high => ?_, fun v low => ?_⟩
  · cases p with
    | truncate => exact narrowEncoder_truncate_toInt low high
    | saturate => rw [narrowEncoder_saturate_of_in_range low high, narrowEncoder_truncate_toInt low high]
  · rw [narrowEncoder_saturate_of_high high]; decide
  · rw [narrowEncoder_saturate_of_low low]; decide

end Sys2Proof.Machine
end

section
/-! The command bytes: the whole effect of each as an equation, and what its byte decodes to. -/

namespace Sys2Proof.Machine

theorem exec_getStatusEncoder (s : State) : exec .getStatusEncoder s =
    .next (reply (narrowEncoder Config.encNarrow s.enc) (encoderReset (loadToread 1#5 s))) := rfl

theorem exec_getStatusRsvd (sub : Len) (s : State) : exec (.getStatusRsvd sub) s = .next (loadToread sub s) := rfl

theorem exec_rsvd7 (len : Len) (s : State) : exec (.rsvd7 len) s = .next (loadToread len s) := rfl

theorem exec_init (s : State) :
    exec .init s = .next (completionOf { s with toread := 30#5, cur := ⟨.other, 0#5, []⟩ }) := complete_eq _

theorem exec_poll (s : State) : exec .poll s = .next (deassertBusy (loadToread 31#5 s)) := rfl

theorem exec_data (d : Byte) (s : State) : exec (.data d) s = .next
    (if s.toread = 1#5 then completionOf (countPayload (storePayload d s)) else countPayload (storePayload d s)) :=
  receiveData_eq d s

theorem decode_encoderByte : decode .command 0x21#8 = .getStatusEncoder := decode_command_packFields .getStatus 1#5

theorem decode_initByte : decode .command 0xFE#8 = .init := decode_command_packFields .other 30#5

theorem decode_pollByte : decode .command 0xFF#8 = .poll := decode_command_packFields .other 31#5

/-- Settles O10: under truncation the reply is the low byte of the count as it was before the reset. -/
theorem statusEncoderRepliesAndZeroes : Obligations.StatusEncoderRepliesAndZeroes := by
  refine ⟨decode_encoderByte, fun s => ?_⟩
  have lowByte : narrowEncoder Config.encNarrow s.enc = BitVec.ofNat 8 (s.enc.toNat % 256) := by
    apply BitVec.eq_of_toNat_eq
    rw [BitVec.toNat_ofNat, Nat.mod_mod]
    exact narrowEncoder_truncate_toNat s.enc
  rw [exec_getStatusEncoder, lowByte, reply, emit, encoderReset_trace, List.append_assoc]
  rfl

/-- Settles O12: both kinds of reserved byte are the preamble alone. -/
theorem reservedCommandsAreIgnored : Obligations.ReservedCommandsAreIgnored :=
  fun len s => ⟨exec_getStatusRsvd len s, exec_rsvd7 len s⟩

/-- Settles O13: the policy FRAME starts a frame, which waits for its payload. -/
theorem reservedSevenUnderTheOtherPolicy : Obligations.ReservedSevenUnderTheOtherPolicy :=
  fun len s nonzero => (frameStart_eq .other len s).trans (by rw [if_neg nonzero])

/-- The command of a framed opcode, and the start of a frame as its effect (41_framing.md R133 to R137). -/
theorem exec_framed {op : Opcode} (framed : isFramed op = true) (len : Len) (s : State) :
    exec (decode .command (packFields op len)) s = frameStart op len s := by
  rw [decode_command_packFields]
  cases op with
  | setCursor | lcdWrite | lcdClear | setLeds | beep => rfl
  | read | getStatus | other => exact absurd framed Bool.false_ne_true

/-- Settles O14: the five pairs are framed opcodes with the command each decodes to. -/
theorem framedCommandsStartAFrame : Obligations.FramedCommandsStartAFrame := by
  intro len s i op pair
  have framedPair : isFramed op = true ∧ decode .command (packFields op len) = i := by
    simp only [List.mem_cons, List.not_mem_nil, or_false, Prod.mk.injEq] at pair
    rcases pair with ⟨rfl, rfl⟩ | ⟨rfl, rfl⟩ | ⟨rfl, rfl⟩ | ⟨rfl, rfl⟩ | ⟨rfl, rfl⟩ <;>
      exact ⟨rfl, decode_command_packFields _ len⟩
  obtain ⟨framed, decoded⟩ := framedPair
  refine ⟨decoded, fun nonzero => ?_, fun zero => ?_⟩
  · rw [← decoded, exec_framed framed, frameStart_eq, if_neg nonzero]
  · rw [← decoded, exec_framed framed, frameStart_eq, if_pos zero]

/-- Settles O15: the sentinel's effect is the completion of the INIT frame. -/
theorem initQueuesTheInitFrame : Obligations.InitQueuesTheInitFrame :=
  ⟨decode_initByte, exec_init⟩

/-- POLL on an empty ring (42_status_control.md R167). -/
theorem exec_poll_of_empty {s : State} (empty : s.head = s.tail) :
    exec .poll s = .next { s with toread := 31#5, busy := false } := by
  have isEmptyToo : isEmpty (loadToread 31#5 s) = true := (isEmpty_eq_true _).2 empty
  rw [exec_poll, deassertBusy, if_pos isEmptyToo, loadToread]

/-- POLL on a ring that holds a frame (42_status_control.md R167). -/
theorem exec_poll_of_nonempty {s : State} (nonempty : s.head ≠ s.tail) :
    exec .poll s = .next { s with toread := 31#5 } := by
  have notEmpty : ¬ isEmpty (loadToread 31#5 s) = true := fun h => nonempty ((isEmpty_eq_true _).1 h)
  rw [exec_poll, deassertBusy, if_neg notEmpty, loadToread]

/-- Settles O16, by the two outcomes of the empty test. -/
theorem pollLowersBusyOnAnEmptyRing : Obligations.PollLowersBusyOnAnEmptyRing :=
  ⟨decode_pollByte, fun _ => ⟨exec_poll_of_empty, exec_poll_of_nonempty⟩⟩

/-- The offset of the byte is one below `POS` (41_framing.md R139). -/
theorem toNat_pos_sub_one {p : BitVec 6} (nonzero : p ≠ 0#6) : (p - 1#6).toNat = p.toNat - 1 := by bv_omega

/-- A payload byte, stored and counted, with the frame still to be completed (41_framing.md R139). -/
theorem countPayload_storePayload {s : State} (d : Byte) (midFrame : s.pos ≠ 0#6) :
    countPayload (storePayload d s) = { s with
      cur := { s.cur with payload := if s.pos.toNat - 1 < 32 then s.cur.payload ++ [d] else s.cur.payload }
      pos := s.pos + 1#6
      toread := s.toread - 1#5 } := by
  rw [countPayload, storePayload, toNat_pos_sub_one midFrame]
  by_cases within : s.pos.toNat - 1 < 32
  · simp only [within, if_true]
  · simp only [within, if_false]

/-- Settles O17: the state `u` is the one in which the byte is stored and counted. -/
theorem dataIsStoredAndCounted : Obligations.DataIsStoredAndCounted := by
  intro d s midFrame
  refine ⟨fetchByte_of_pos_ne_zero d midFrame, _, countPayload_storePayload d midFrame, fun more => ?_, fun last => ?_⟩
  · rw [exec_data, if_neg more]
  · rw [exec_data, if_pos last]

end Sys2Proof.Machine
end

section
/-! Completion, and the ring's push and pop, as operations on the queue. -/

namespace Sys2Proof.Machine

/-- A full ring drops the completed frame (41_framing.md R140). -/
theorem completionOf_of_full {s : State} (full : isFull s = true) : completionOf s = { s with pos := 0#6 } :=
  if_pos ((isFull_eq_true s).1 full)

/-- A ring with room stores the completed frame at `HEAD` (41_framing.md R140). -/
theorem completionOf_of_room {s : State} (room : isFull s = false) : completionOf s =
    { s with
      pos := 0#6
      slots := s.slots.set s.head.toNat s.cur s.head.isLt
      head := s.head + 1#5
      busy := s.busy || decide (22 ≤ (s.head + 1#5 - s.tail).toNat) } :=
  if_neg ((isFull_eq_false s).1 room)

/-- The queue after a completion, in one equation (41_framing.md R140). -/
theorem liveFrames_completionOf (s : State) :
    liveFrames (completionOf s) = if isFull s then liveFrames s else liveFrames s ++ [s.cur] := by
  cases hfull : isFull s with
  | true => rw [completionOf_of_full hfull]; rfl
  | false =>
    rw [completionOf_of_room hfull]
    exact liveFrames_of_push ((isFull_eq_false s).1 hfull) rfl rfl rfl

/-- `BUSY` after a completion: raised by a frame that was queued as the 22nd or a later one (43_flow_control.md R180). -/
theorem busy_completionOf (s : State) : (completionOf s).busy =
    (s.busy || (!isFull s && decide (22 ≤ (liveFrames (completionOf s)).length))) := by
  rw [liveFrames_length]
  cases hfull : isFull s with
  | true => rw [completionOf_of_full hfull, Bool.not_true, Bool.false_and, Bool.or_false]
  | false => rw [completionOf_of_room hfull]; rfl

/-- Settles O18, by the two forms of the completed state. -/
theorem completionAppendsOrDrops : Obligations.CompletionAppendsOrDrops := by
  intro s
  refine ⟨fun full => ?_, fun room => ⟨completionOf s, complete_eq s, ?_, ?_, ?_, fun j other => ?_⟩⟩
  · rw [complete_eq, completionOf_of_full full]
  · simp only [liveFrames_completionOf, room, Bool.false_eq_true, if_false]
  · rw [liveFrames_length, completionOf_of_room room]
    rfl
  · rw [completionOf_of_room room]
    exact (slotRead_slotWrite s.head s.head s.cur s).trans (if_pos rfl)
  · rw [completionOf_of_room room]
    exact (slotRead_slotWrite s.head j s.cur s).trans (if_neg other.symm)

/-- Settles O28: each operation tests its precondition first, and then is the push or the pop of the queue. -/
theorem pushAppendsAndPopRemovesTheOldest : Obligations.PushAppendsAndPopRemovesTheOldest := by
  refine ⟨fun f s full => if_pos full, fun s empty => if_pos empty, fun f s room => ?_, fun s nonempty => ?_⟩
  · exact ⟨_, pushBack_of_room room, liveFrames_of_push ((isFull_eq_false s).1 room) rfl rfl rfl, rfl⟩
  · exact ⟨_, _, popFront_of_some nonempty, liveFrames_of_pop ((isEmpty_eq_false s).1 nonempty) rfl rfl rfl, rfl⟩

end Sys2Proof.Machine
end

section
/-! The frame opcodes whose length the dispatcher does not refuse, and the reset. -/

namespace Sys2Proof.Machine

theorem exec_execNoneOpcode0 (n : Len) (s : State) : exec (.execNoneOpcode0 n) s = .next (takeFrame s) := rfl

theorem exec_execNoneOpcode1 (n : Len) (s : State) : exec (.execNoneOpcode1 n) s = .next (takeFrame s) := rfl

theorem exec_execLcdClear (n : Len) (s : State) :
    exec (.execLcdClear n) s = .next (emit .displayClear (takeFrame s)) := rfl

theorem exec_execBeep (s : State) : exec .execBeep s =
    .next (emit (.buzz (beepDuration (payloadCell s.dreg 0))
      (beepFrequency (payloadCell s.dreg 1) (payloadCell s.dreg 2))) (takeFrame s)) := rfl

theorem exec_execBeepDefault (n : Len) (s : State) : exec (.execBeepDefault n) s =
    .next (emit (.buzz Config.beepDefaultDuration Config.beepDefaultFreq) (takeFrame s)) := rfl

theorem exec_execInit (n : Len) (s : State) : exec (.execInit n) s = .next (fullReset (takeFrame s)) := rfl

/-- Settles O21, by the header's decode and the one operation emitted. -/
theorem lcdClearFrameClears : Obligations.LcdClearFrameClears := by
  intro n s
  refine ⟨decode_frameHeader_packFields .lcdClear n, ?_⟩
  rw [exec_execLcdClear, emit_takeFrame]

/-- Settles O23, by the header's decode and the bytes in cells 0 to 2. -/
theorem beepFrameBuzzes : Obligations.BeepFrameBuzzes := by
  refine ⟨decode_frameHeader_packFields .beep, fun s p0 p1 p2 rest hp => ?_, fun n s => ?_⟩
  · have duration : beepDuration (payloadCell s.dreg 0) = p0.toNat := by
      rw [payloadCell_zero_of_cons hp, beepDuration]
    have cell1 : payloadCell s.dreg 1 = p1 := by rw [payloadCell, hp]; rfl
    have cell2 : payloadCell s.dreg 2 = p2 := by rw [payloadCell, hp]; rfl
    rw [exec_execBeep, emit_takeFrame, duration, cell1, cell2, beepFrequency_eq]
  · rw [exec_execBeepDefault, emit_takeFrame]

/-- Settles O24: both kinds of frame are only taken. -/
theorem framesOfOpcodeZeroAndOneDoNothing : Obligations.FramesOfOpcodeZeroAndOneDoNothing :=
  fun n s => ⟨exec_execNoneOpcode0 n s, exec_execNoneOpcode1 n s⟩

/-- `Reset()` written out (70_reset_and_hazards.md R250, R251): what it leaves, and `DVALID`, which it clears itself. -/
theorem fullReset_eq (s : State) : fullReset s = { State.reset with
    slots := s.slots, dreg := s.dreg, btnIn := s.btnIn, script := s.script,
    trace := s.trace ++ [.output .encoderReset] } := rfl

/-- Settles O25, by the header's decode and the reset written out. -/
theorem initFrameResetsTheBlock : Obligations.InitFrameResetsTheBlock := by
  intro n s
  refine ⟨decode_frameHeader_packFields .other n, ?_⟩
  rw [exec_execInit, fullReset_eq]
  rfl

/-- Settles O30: the named values, the empty queue of equal indices, and the reset written out. -/
theorem powerOnStateIsTheResetState : Obligations.PowerOnStateIsTheResetState :=
  ⟨rfl, rfl, rfl, rfl, rfl, rfl, rfl, rfl, rfl, liveFrames_of_empty rfl, fullReset_eq⟩

/-- A state between frames, with an empty queue and no frame held, is legal whatever else it holds. -/
theorem inv_of_idle {s : State} (between : s.pos = 0#6) (empty : s.head = s.tail) (noFrame : s.dvalid = false) :
    Inv s := by
  have noLive : liveFrames s = [] := liveFrames_of_empty empty
  refine ⟨.inl between, fun f live => ?_, fun long => ?_, fun held => ?_⟩
  · rw [noLive] at live
    exact absurd live List.not_mem_nil
  · rw [← liveFrames_length, noLive] at long
    exact absurd long (by decide)
  · rw [noFrame] at held
    exact absurd held Bool.false_ne_true

/-- Settles O31: the state after power-on is idle. -/
theorem resetStateSatisfiesTheInvariant : Obligations.ResetStateSatisfiesTheInvariant := inv_of_idle rfl rfl rfl

end Sys2Proof.Machine
end

section
/-! Single steps of the machine: the script's next entry is taken when it is enabled, and else passed over. -/

namespace Sys2Proof.Machine

/-- Around the agent's step the machine only takes the entry off the script and keeps the record (log 5). -/
theorem step_of_script {s : State} {e : Event} {rest : List Event} (hs : s.script = e :: rest)
    (he : enabled e s = true) :
    step s = andThen (agentStep e (recordStep e (withScript rest s))) fun t => .next (recordBusy t) := by
  obtain ⟨u, hu⟩ := agentStep_answers_next e _ ((enabled_recordStep_withScript e rest s).trans he)
  rw [step_of_enabled hs he hu, hu, andThen_next]

/-- `POS` alone says in which format a received byte is read (30_encoding.md R80). -/
theorem fetchByte_eq_decode (b : Byte) (s : State) :
    fetchByte b s = decode (if s.pos = 0#6 then .command else .payload) b := by
  by_cases between : s.pos = 0#6
  · rw [fetchByte_of_pos_eq_zero b between, if_pos between]
  · rw [fetchByte_of_pos_ne_zero b between, if_neg between]; rfl

/-- With a received byte next, the step is the decoded instruction's effect (41_framing.md R130). -/
theorem step_of_rx {s : State} {b : Byte} {rest : List Event} (hs : s.script = .rx b :: rest) : step s =
    andThen (exec (decode (if s.pos = 0#6 then .command else .payload) b) (recordStep (.rx b) (withScript rest s)))
      fun t => .next (recordBusy t) := by
  rw [step_of_script hs rfl, ← fetchByte_eq_decode]
  rfl

/-- Settles O32: the fetched instruction is the decoded one, and a record of the step hides nothing from the fetch. -/
theorem stepRunsTheDecodedInstruction : Obligations.StepRunsTheDecodedInstruction := by
  exact ⟨fun s b rest hs => step_of_rx hs, fun s rest hs held => step_of_script hs held⟩

theorem wordBytes_eight (w : Nat) : wordBytes 8 w = [BitVec.ofNat 8 w] := by
  simp [wordBytes]

/-- Settles O33: the word's byte is put before the script, to a decoder that is between frames. -/
theorem fetchWordIsRunNext : Obligations.FetchWordIsRunNext := by
  intro s w
  have decoded : decodeTableWord 8 w = some (decode .command (BitVec.ofNat 8 w)) := by
    rw [decodeTableWord, wordBytes_eight, decodeBytes]
  have presented : s.withFetchWord 8 w = presentCommand (BitVec.ofNat 8 w) s := by
    rw [State.withFetchWord, wordBytes_eight]
  obtain ⟨wellFormed, -, -⟩ := encodeOfDecodeIsTheByte .command (BitVec.ofNat 8 w)
  refine ⟨_, decoded, wellFormed, ?_⟩
  rw [presented]
  exact step_of_rx rfl

theorem moveCount_toInt (v : BitVec 16) (d : Int) : (moveCount v d).toInt = Int.bmod (v.toInt + d) 65536 :=
  BitVec.toInt_ofInt _

/-- The two entries that a step without output adds to the record (log 5). -/
theorem trace_append_two (tr : List Obs) (e : Event) (level : Bool) :
    tr ++ [.took e] ++ [.busyLevel level] = tr ++ [.took e, .busyLevel level] := List.append_assoc ..

/-- Settles O34: each agent's step written out, between the two entries of the record. -/
theorem popRefreshAndEnvironmentSteps : Obligations.PopRefreshAndEnvironmentSteps := by
  intro s rest
  refine ⟨fun hs noFrame nonempty => ?_, fun hs => ?_, fun d hs => ⟨_, moveCount_toInt s.enc d, ?_⟩, fun m hs => ?_,
    fun hs => ?_⟩
  · have notEmpty : isEmpty s = false := (isEmpty_eq_false s).2 nonempty
    have guard : enabled .pop s = true := by simp [enabled, noFrame, notEmpty]
    rw [← trace_append_two]
    exact step_of_enabled hs guard (popStep_eq notEmpty)
  · rw [← trace_append_two]
    exact step_of_enabled hs rfl rfl
  · rw [← trace_append_two]
    exact step_of_enabled hs rfl rfl
  · rw [← trace_append_two]
    exact step_of_enabled hs rfl rfl
  · exact step_of_enabled hs rfl rfl

/-- Settles O35: the guards of POP and EXEC fail, so the entry is passed over. -/
theorem disabledStepsAreNotTaken : Obligations.DisabledStepsAreNotTaken := by
  refine ⟨fun s => step_of_idle, fun s rest hs blocked => step_of_disabled hs ?_, fun s rest hs noFrame =>
    step_of_disabled hs noFrame⟩
  rcases blocked with held | empty
  · simp [enabled, held]
  · simp [enabled, (isEmpty_eq_true s).2 empty]

/-- A size has 5 bits, so the queue never holds more than 31 frames (40_ringbuffer.md R116). -/
theorem liveFrames_length_le (s : State) : (liveFrames s).length ≤ 31 := by
  rw [liveFrames_length]
  exact Nat.le_of_lt_succ (size s).isLt

/-- Settles O53: the values and laws are computed, and the queue's length is a 5-bit size. -/
theorem parametersAndTheirLaws : Obligations.ParametersAndTheirLaws := by
  exact ⟨by decide, by decide, ⟨rfl, rfl, rfl⟩, ⟨rfl, rfl, rfl⟩, liveFrames_length_le⟩

end Sys2Proof.Machine
end

section
/-! What a completion leaves as it was, field by field. -/

namespace Sys2Proof.Machine

@[simp] theorem completionOf_pos (s : State) : (completionOf s).pos = 0#6 := by unfold completionOf; split <;> rfl
@[simp] theorem completionOf_toread (s : State) : (completionOf s).toread = s.toread := by unfold completionOf; split <;> rfl
@[simp] theorem completionOf_tail (s : State) : (completionOf s).tail = s.tail := by unfold completionOf; split <;> rfl
@[simp] theorem completionOf_btn (s : State) : (completionOf s).btn = s.btn := by unfold completionOf; split <;> rfl
@[simp] theorem completionOf_dreg (s : State) : (completionOf s).dreg = s.dreg := by unfold completionOf; split <;> rfl
@[simp] theorem completionOf_dvalid (s : State) : (completionOf s).dvalid = s.dvalid := by unfold completionOf; split <;> rfl
@[simp] theorem completionOf_btnIn (s : State) : (completionOf s).btnIn = s.btnIn := by unfold completionOf; split <;> rfl
@[simp] theorem completionOf_script (s : State) : (completionOf s).script = s.script := by unfold completionOf; split <;> rfl
@[simp] theorem completionOf_trace (s : State) : (completionOf s).trace = s.trace := by unfold completionOf; split <;> rfl

end Sys2Proof.Machine
end

section
/-! How a received byte can act: seven ways, told apart by the decoder state and the byte, each with the state it leaves. -/

namespace Sys2Proof

/-- The two fields of a word are independent. -/
theorem packFields_inj {op op' : Opcode} {len len' : Len} :
    packFields op len = packFields op' len' ↔ op = op' ∧ len = len' := by
  constructor
  · intro same
    have sameOp : op = op' := by rw [← opcodeOf_packFields op len, same, opcodeOf_packFields]
    subst sameOp
    exact ⟨rfl, (packFields_eq_iff op len len').1 same⟩
  · rintro ⟨rfl, rfl⟩
    rfl

theorem buttonsWord : (0x20#8 : Byte) = packFields .getStatus 0#5 := by decide
theorem encoderWord : (0x21#8 : Byte) = packFields .getStatus 1#5 := by decide
theorem qdepthWord : (0x22#8 : Byte) = packFields .getStatus 2#5 := by decide
theorem initWord : (0xFE#8 : Byte) = packFields .other 30#5 := by decide
theorem pollWord : (0xFF#8 : Byte) = packFields .other 31#5 := by decide

end Sys2Proof

namespace Sys2Proof.Machine

/-- The replies of the two queries that only read the block (42_status_control.md R162, R164). -/
def mirrorReplies (b : Byte) (s : State) : List Output :=
  if b = 0x20#8 then [.reply s.btn] else if b = 0x22#8 then [.reply (depthReply (size s))] else []

/-- The bytes that start no frame and change no register but `TOREAD`: READ, the reserved ones, and the queries of the mirror
and of the size. -/
abbrev OnlyReads (b : Byte) : Prop := isFramed (opcodeOf b) = false ∧ b ≠ 0x21#8 ∧ b ≠ 0xFE#8 ∧ b ≠ 0xFF#8

/-- How a received byte can act (41_framing.md R130 to R140, 42_status_control.md), with the state it leaves. -/
inductive Reception (b : Byte) (s : State) : State → Prop where
  | readOnly (between : s.pos = 0#6) (only : OnlyReads b) :
    Reception b s (emitAll (mirrorReplies b s) (loadToread (lenField b) s))
  | encoder (between : s.pos = 0#6) (query : b = 0x21#8) :
    Reception b s (reply (narrowEncoder Config.encNarrow s.enc) (encoderReset (loadToread 1#5 s)))
  | poll (between : s.pos = 0#6) (sentinel : b = 0xFF#8) : Reception b s (deassertBusy (loadToread 31#5 s))
  | start (between : s.pos = 0#6) (framed : isFramed (opcodeOf b) = true) (waits : lenField b ≠ 0#5) :
    Reception b s { s with toread := lenField b, cur := ⟨opcodeOf b, lenField b, []⟩, pos := 1#6 }
  | atOnce (f : Frame) (between : s.pos = 0#6) (queueable : QueueableFrame f) (sent : wireBytes f = [b]) :
    Reception b s (completionOf { s with toread := lenField b, cur := f })
  | more (midFrame : s.pos ≠ 0#6) (left : s.toread ≠ 1#5) : Reception b s (countPayload (storePayload b s))
  | last (midFrame : s.pos ≠ 0#6) (lastOne : s.toread = 1#5) :
    Reception b s (completionOf (countPayload (storePayload b s)))

theorem isFramed_ne_other {op : Opcode} (framed : isFramed op = true) : op ≠ .other := by
  rintro rfl
  exact absurd framed Bool.false_ne_true

theorem wireBytes_of_framed {f : Frame} (framed : isFramed f.opcode = true) :
    wireBytes f = packFields f.opcode f.length :: f.payload := if_neg (isFramed_ne_other framed)

theorem wireBytes_of_init {f : Frame} (init : f.opcode = .other) : wireBytes f = [0xFE#8] := if_pos init

/-- A declared length is below the number of cells, so a frame of the right size holds just that many bytes. -/
theorem sizedFrame_iff (f : Frame) : SizedFrame f ↔ f.payload.length = f.length.toNat := by
  have fits : f.length.toNat ≤ Config.maxPayload := Nat.le_of_lt f.length.isLt
  rw [SizedFrame, Nat.min_eq_left fits]

/-- A frame sent as one byte is the INIT frame or a framed one of length 0. -/
theorem eq_of_wireBytes_singleton {f : Frame} {b : Byte} (queueable : QueueableFrame f) (sent : wireBytes f = [b]) :
    (b = 0xFE#8 ∧ f = ⟨.other, 0#5, []⟩) ∨
      (isFramed f.opcode = true ∧ b = packFields f.opcode 0#5 ∧ f = ⟨f.opcode, 0#5, []⟩) := by
  obtain ⟨op, len, payload⟩ := f
  obtain ⟨sized, framed | ⟨rfl, rfl⟩⟩ := queueable
  · rw [wireBytes_of_framed framed, List.cons.injEq] at sent
    obtain ⟨word, rfl⟩ := sent
    have noLength : len = 0#5 := BitVec.eq_of_toNat_eq ((sizedFrame_iff _).1 sized).symm
    subst noLength
    exact .inr ⟨framed, word.symm, rfl⟩
  · have noPayload : payload = [] := List.eq_nil_of_length_eq_zero ((sizedFrame_iff _).1 sized)
    subst noPayload
    exact .inl ⟨(List.cons.inj sent).1.symm, rfl⟩

/-- A byte that only reads writes `TOREAD` and gives its reply, if it has one. -/
theorem exec_of_onlyReads {b : Byte} (only : OnlyReads b) (s : State) : exec (decode .command b) s =
    .next (emitAll (mirrorReplies b s) (loadToread (lenField b) s)) := by
  obtain ⟨op, len, rfl⟩ : ∃ op len, b = packFields op len := ⟨_, _, (packFields_opcodeOf_lenField b).symm⟩
  rw [OnlyReads, opcodeOf_packFields, encoderWord, initWord, pollWord] at only
  obtain ⟨unframed, notEncoder, notInit, notPoll⟩ := only
  have silent : ∀ u : State, emitAll [] u = u := fun u => by rw [emitAll, List.map_nil, List.append_nil]
  rw [decode_command_packFields, lenField_packFields, mirrorReplies, buttonsWord, qdepthWord]
  simp only [ne_eq, packFields_inj] at notEncoder notInit notPoll ⊢
  cases op with
  | read => simp [silent, exec_read]
  | getStatus =>
    have notOne : len ≠ 1#5 := by simpa using notEncoder
    by_cases zero : len = 0#5
    · subst zero; rfl
    · by_cases two : len = 2#5
      · subst two; rfl
      · simp [zero, notOne, two, silent, exec_getStatusRsvd]
  | other =>
    have notThirty : len ≠ 30#5 := by simpa using notInit
    have notLast : len ≠ 31#5 := by simpa using notPoll
    simp [notThirty, notLast, silent, exec_rsvd7]
  | setCursor | lcdWrite | lcdClear | setLeds | beep => exact absurd unframed Bool.true_eq_false_eq_False

/-- Each of the seven ways is what `exec` does. -/
theorem Reception.exec_eq {b : Byte} {s t : State} (r : Reception b s t) : exec (fetchByte b s) s = .next t := by
  cases r with
  | readOnly between only => rw [fetchByte_of_pos_eq_zero b between, exec_of_onlyReads only]
  | encoder between query =>
    rw [fetchByte_of_pos_eq_zero b between, query, decode_encoderByte, exec_getStatusEncoder]
  | poll between sentinel =>
    rw [fetchByte_of_pos_eq_zero b between, sentinel, decode_pollByte, exec_poll]
  | start between framed waits =>
    rw [fetchByte_of_pos_eq_zero b between]
    conv_lhs => rw [← packFields_opcodeOf_lenField b]
    rw [exec_framed framed, frameStart_eq, if_neg waits]
  | atOnce f between queueable sent =>
    rw [fetchByte_of_pos_eq_zero b between]
    obtain ⟨rfl, rfl⟩ | ⟨framed, rfl, zero⟩ := eq_of_wireBytes_singleton queueable sent
    · rw [decode_initByte, exec_init]; rfl
    · rw [exec_framed framed, frameStart_eq, if_pos rfl, lenField_packFields, ← zero]
  | more midFrame left => rw [fetchByte_of_pos_ne_zero b midFrame, exec_data, if_neg left]
  | last midFrame lastOne => rw [fetchByte_of_pos_ne_zero b midFrame, exec_data, if_pos lastOne]

/-- There is a way for every byte in every decoder state. -/
theorem exists_reception (b : Byte) (s : State) : ∃ t, Reception b s t := by
  by_cases between : s.pos = 0#6
  · cases framed : isFramed (opcodeOf b) with
    | true =>
      by_cases zero : lenField b = 0#5
      · have sent : wireBytes ⟨opcodeOf b, 0#5, []⟩ = [b] := by
          rw [wireBytes_of_framed framed, ← zero, packFields_opcodeOf_lenField]
        exact ⟨_, .atOnce _ between ⟨rfl, .inl framed⟩ sent⟩
      · exact ⟨_, .start between framed zero⟩
    | false =>
      by_cases query : b = 0x21#8
      · exact ⟨_, .encoder between query⟩
      by_cases init : b = 0xFE#8
      · exact ⟨_, .atOnce ⟨.other, 0#5, []⟩ between ⟨rfl, .inr ⟨rfl, rfl⟩⟩ (by rw [init]; rfl)⟩
      by_cases sentinel : b = 0xFF#8
      · exact ⟨_, .poll between sentinel⟩
      exact ⟨_, .readOnly between ⟨framed, query, init, sentinel⟩⟩
  · by_cases lastOne : s.toread = 1#5
    · exact ⟨_, .last between lastOne⟩
    · exact ⟨_, .more between lastOne⟩

/-- So a received byte acts in one of the seven ways, and no other. -/
theorem exec_fetchByte_iff {b : Byte} {s t : State} : exec (fetchByte b s) s = .next t ↔ Reception b s t := by
  constructor
  · intro h
    obtain ⟨u, r⟩ := exists_reception b s
    have same : t = u := by
      have := h.symm.trans r.exec_eq
      injection this
    exact same ▸ r
  · exact Reception.exec_eq

end Sys2Proof.Machine
end

section
/-! How a frame held for execution can act: it is taken and its operations are emitted, or it is the INIT frame and the block
is reset. -/

namespace Sys2Proof.Machine

/-- The operations of a frame, in order (44_dispatch.md R195 to R201). -/
def frameOutputs (f : Frame) : List Output :=
  match f.opcode with
  | .read => []
  | .getStatus => []
  | .setCursor =>
    if f.length = 1#5 then [.displaySetCursor (cursorRow (payloadCell f 0)) (cursorColumn (payloadCell f 0))] else []
  | .lcdWrite => (List.range f.length.toNat).map fun k => .displayWrite (payloadCell f k)
  | .lcdClear => [.displayClear]
  | .setLeds => if f.length = 1#5 then [.displaySetBacklight (payloadCell f 0)] else []
  | .beep =>
    if f.length = 3#5 then
      [.buzz (beepDuration (payloadCell f 0)) (beepFrequency (payloadCell f 1) (payloadCell f 2))]
    else [.buzz Config.beepDefaultDuration Config.beepDefaultFreq]
  | .other => [.encoderReset]

/-- What the execution of the held frame leaves. -/
theorem exec_fetchFrame (s : State) : exec (fetchFrame s) s =
    .next (if s.dreg.opcode = .other then fullReset (takeFrame s)
      else emitAll (frameOutputs s.dreg) (takeFrame s)) := by
  have fetched : fetchFrame s = decode .frameHeader (packFields s.dreg.opcode s.dreg.length) := rfl
  have silent : emitAll [] (takeFrame s) = takeFrame s := by rw [emitAll, List.map_nil, List.append_nil]
  rw [fetched, decode_frameHeader_packFields, frameOutputs]
  cases s.dreg.opcode with
  | read => simp [silent, exec_execNoneOpcode0]
  | getStatus => simp [silent, exec_execNoneOpcode1]
  | setCursor =>
    by_cases one : s.dreg.length = 1#5
    · simp only [one, if_true]; rfl
    · simp [one, silent, exec_execSetCursorMalformed]
  | lcdWrite =>
    by_cases writable : writableLength s.dreg.length
    · simp only [if_pos writable]; rfl
    · have zero : s.dreg.length.toNat = 0 := by
        have := s.dreg.length.isLt
        simp only [writableLength, Config.maxPayload, not_and_or] at writable
        omega
      simp [writable, zero, silent, exec_execLcdWriteMalformed]
  | lcdClear => rfl
  | setLeds =>
    by_cases one : s.dreg.length = 1#5
    · simp only [one, if_true]; rfl
    · simp [one, silent, exec_execSetLedsMalformed]
  | beep =>
    by_cases three : s.dreg.length = 3#5
    · simp only [three, if_true]; rfl
    · simp only [three, if_false]; rfl
  | other => rfl

end Sys2Proof.Machine
end

section
/-! What an enabled step can do, over all agents, and how it stands in a step of the machine. -/

namespace Sys2Proof.Machine

/-- The steps that may be taken in `s`, with the state each leaves: one case for each agent's step, two for `EXEC`. -/
inductive Takes (s : State) : Event → State → Prop where
  | rx {b : Byte} {t : State} (r : Reception b s t) : Takes s (.rx b) t
  | pop (noFrame : s.dvalid = false) (nonempty : isEmpty s = false) :
    Takes s .pop { s with tail := s.tail + 1#5, dreg := slotRead s s.tail, dvalid := true }
  | perform (held : s.dvalid = true) (notInit : s.dreg.opcode ≠ .other) :
    Takes s .exec (emitAll (frameOutputs s.dreg) (takeFrame s))
  | init (held : s.dvalid = true) (isInit : s.dreg.opcode = .other) : Takes s .exec (fullReset (takeFrame s))
  | refresh : Takes s .refresh (refreshStep s)
  | encMove (d : Int) : Takes s (.encMove d) (encMoveStep d s)
  | btnChange (m : Byte) : Takes s (.btnChange m) (btnChangeStep m s)
  | rst : Takes s .rst (fullReset s)

/-- The two guards of POP, `DVALID = 0` and a frame in the ring (44_dispatch.md R192). -/
theorem enabled_pop_iff (s : State) : enabled .pop s = true ↔ s.dvalid = false ∧ isEmpty s = false := by
  simp [enabled]

/-- `Takes` is the enabled agents' steps. -/
theorem takes_iff {e : Event} {s t : State} : Takes s e t ↔ enabled e s = true ∧ agentStep e s = .next t := by
  constructor
  · intro h
    cases h with
    | rx r => exact ⟨rfl, r.exec_eq⟩
    | pop noFrame nonempty => exact ⟨(enabled_pop_iff s).2 ⟨noFrame, nonempty⟩, popStep_eq nonempty⟩
    | perform held notInit => exact ⟨held, (exec_fetchFrame s).trans (by rw [if_neg notInit])⟩
    | init held isInit => exact ⟨held, (exec_fetchFrame s).trans (by rw [if_pos isInit])⟩
    | refresh | encMove | btnChange | rst => exact ⟨rfl, rfl⟩
  · rintro ⟨he, h⟩
    cases e with
    | rx b => exact .rx (exec_fetchByte_iff.1 h)
    | pop =>
      obtain ⟨noFrame, nonempty⟩ := (enabled_pop_iff s).1 he
      have left := (popStep_eq nonempty).symm.trans h
      injection left with left
      exact left ▸ .pop noFrame nonempty
    | exec =>
      have left := (exec_fetchFrame s).symm.trans h
      injection left with left
      by_cases isInit : s.dreg.opcode = .other
      · rw [if_pos isInit] at left; exact left ▸ .init he isInit
      · rw [if_neg isInit] at left; exact left ▸ .perform he isInit
    | refresh => injection h with h; exact h ▸ .refresh
    | encMove d => injection h with h; exact h ▸ .encMove d
    | btnChange m => injection h with h; exact h ▸ .btnChange m
    | rst => injection h with h; exact h ▸ .rst

/-- The state in which a step is taken: the entry is off the script and in the record. -/
abbrev begun (e : Event) (rest : List Event) (s : State) : State := recordStep e (withScript rest s)

/-- A step of the machine takes the script's next entry, or, when that is not enabled or not there, moves only the script. -/
theorem step_inversion {s t : State} (h : step s = .next t) :
    (∃ e rest u, s.script = e :: rest ∧ Takes (begun e rest s) e u ∧ t = recordBusy u) ∨
    (t = withScript s.script.tail s ∧ ∀ e rest, s.script = e :: rest → enabled e s = false) := by
  rcases step_cases h with ⟨hs, rfl⟩ | ⟨e, rest, hs, he, rfl⟩ | ⟨e, rest, u, hs, he, hu, rfl⟩
  · refine .inr ⟨?_, fun e rest hs' => by simp [hs] at hs'⟩
    rw [withScript, hs, List.tail_nil, ← hs]
  · refine .inr ⟨by rw [hs, List.tail_cons], fun e' rest' hs' => ?_⟩
    obtain ⟨rfl, -⟩ := List.cons.inj (hs.symm.trans hs')
    exact he
  · exact .inl ⟨e, rest, u, hs, takes_iff.2 ⟨(enabled_recordStep_withScript e rest s).trans he, hu⟩, rfl⟩

/-- A step that may be taken is the step of the machine when it comes next in the script. -/
theorem step_of_takes {s u : State} {e : Event} {rest : List Event} (hs : s.script = e :: rest)
    (h : Takes (begun e rest s) e u) : step s = .next (recordBusy u) := by
  obtain ⟨he, hu⟩ := takes_iff.1 h
  exact step_of_enabled hs ((enabled_recordStep_withScript e rest s).symm.trans he) hu

end Sys2Proof.Machine
end

section
/-! The decoder's part of the invariant, and the frame that a completion queues from a legal decoder state. -/

namespace Sys2Proof.Machine

/-- What the decoder's invariant says in mid-frame: the position and what is left to read add up to the declared length, and
every byte before the position is stored (10_state.md R26). -/
theorem DecoderInv.midFrame {s : State} (legal : DecoderInv s) (midFrame : s.pos ≠ 0#6) :
    isFramed s.cur.opcode = true ∧ 1 ≤ s.pos.toNat ∧ 1 ≤ s.toread.toNat ∧
      s.pos.toNat + s.toread.toNat = s.cur.length.toNat + 1 ∧ s.cur.payload.length + 1 = s.pos.toNat := by
  obtain between | ⟨low, high, left, framed, counted, stored⟩ := legal
  · exact absurd between midFrame
  · have noCap : min (s.pos.toNat - 1) Config.maxPayload = s.pos.toNat - 1 := Nat.min_eq_left (by
      show s.pos.toNat - 1 ≤ 32
      omega)
    rw [noCap] at stored
    exact ⟨framed, low, left, by omega, by omega⟩

/-- Within the cells of a frame a payload byte is appended (41_framing.md R139). -/
theorem storePayload_cur_of_le {s : State} (b : Byte) (midFrame : s.pos ≠ 0#6) (within : s.pos.toNat ≤ 32) :
    (storePayload b s).cur = ⟨s.cur.opcode, s.cur.length, s.cur.payload ++ [b]⟩ := by
  have below : (s.pos - 1#6).toNat < Config.maxPayload := by
    show (s.pos - 1#6).toNat < 32
    rw [toNat_pos_sub_one midFrame]
    have : s.pos.toNat ≠ 0 := fun h => midFrame (BitVec.eq_of_toNat_eq h)
    omega
  rw [storePayload, if_pos below]

/-- A legal decoder is within the cells of its frame, as no length exceeds 31. -/
theorem DecoderInv.storePayload_cur {s : State} (legal : DecoderInv s) (b : Byte) (midFrame : s.pos ≠ 0#6) :
    (storePayload b s).cur = ⟨s.cur.opcode, s.cur.length, s.cur.payload ++ [b]⟩ := by
  obtain ⟨-, -, left, counted, -⟩ := legal.midFrame midFrame
  have fits := s.cur.length.isLt
  exact storePayload_cur_of_le b midFrame (by omega)

/-- The frame that the last byte completes has all the bytes it declares (10_state.md R26, R30). -/
theorem DecoderInv.queueable_of_last {s : State} (legal : DecoderInv s) (b : Byte) (midFrame : s.pos ≠ 0#6)
    (lastOne : s.toread = 1#5) : QueueableFrame (storePayload b s).cur := by
  obtain ⟨framed, -, -, counted, stored⟩ := legal.midFrame midFrame
  rw [legal.storePayload_cur b midFrame]
  refine ⟨(sizedFrame_iff _).2 ?_, .inl framed⟩
  have one : s.toread.toNat = 1 := congrArg BitVec.toNat lastOne
  rw [List.length_append, List.length_singleton]
  dsimp only
  omega

/-- A byte that is not the last leaves the decoder one byte further into its frame. -/
theorem DecoderInv.of_more {s : State} (legal : DecoderInv s) (b : Byte) (midFrame : s.pos ≠ 0#6)
    (left : s.toread ≠ 1#5) : DecoderInv (countPayload (storePayload b s)) := by
  obtain ⟨framed, low, read, counted, stored⟩ := legal.midFrame midFrame
  have fits := s.cur.length.isLt
  have moreThanOne : s.toread.toNat ≠ 1 := fun h => left (BitVec.eq_of_toNat_eq h)
  have nextPos : (s.pos + 1#6).toNat = s.pos.toNat + 1 := by bv_omega
  have nextRead : (s.toread - 1#5).toNat = s.toread.toNat - 1 := by bv_omega
  right
  rw [countPayload_pos, countPayload_toread, countPayload_cur, storePayload_pos, storePayload_toread,
    legal.storePayload_cur b midFrame, nextPos, nextRead, List.length_append, List.length_singleton]
  dsimp only
  refine ⟨by omega, by omega, by omega, framed, by omega, ?_⟩
  have noCap : min (s.pos.toNat + 1 - 1) Config.maxPayload = s.pos.toNat + 1 - 1 := Nat.min_eq_left (by
    show s.pos.toNat + 1 - 1 ≤ 32
    omega)
  rw [noCap]
  omega

/-- A frame that waits for its payload starts in a legal decoder state (41_framing.md R132). -/
theorem decoderInv_of_start {op : Opcode} {len : Len} (s : State) (framed : isFramed op = true) (waits : len ≠ 0#5) :
    DecoderInv { s with toread := len, cur := ⟨op, len, []⟩, pos := 1#6 } := by
  have nonzero : 1 ≤ len.toNat := by bv_omega
  exact .inr ⟨Nat.le_refl 1, (by decide : 1 ≤ 31), nonzero, framed, Nat.zero_add _, rfl⟩

/-- A received byte keeps the decoder legal: between frames nothing is asked, and in mid-frame the count goes on. -/
theorem Reception.keeps_decoderInv {b : Byte} {s t : State} (r : Reception b s t) (legal : DecoderInv s) :
    DecoderInv t := by
  cases r with
  | readOnly between | encoder between => exact .inl between
  | poll between => exact .inl ((deassertBusy_pos _).trans between)
  | start between framed waits => exact decoderInv_of_start s framed waits
  | atOnce | last => exact .inl (completionOf_pos _)
  | more midFrame left => exact legal.of_more b midFrame left

/-- The other agents do not write the decoder, and a reset puts it between frames. -/
theorem Takes.keeps_decoderInv {e : Event} {s t : State} (h : Takes s e t) (legal : DecoderInv s) : DecoderInv t := by
  cases h with
  | rx r => exact r.keeps_decoderInv legal
  | pop | perform | refresh | encMove | btnChange => exact legal
  | init | rst => exact .inl rfl

end Sys2Proof.Machine
end

section
/-! What a step does to the queue and to `BUSY`: five ways, and from them the rules of the queue and of the flag. -/

namespace Sys2Proof.Machine

/-- What a step can do to the queue and to `BUSY` (20_memory.md section 6, 43_flow_control.md R180, R181). -/
inductive QueueStep (s t : State) : Event → Prop where
  | kept {e : Event} (same : liveFrames t = liveFrames s) (sameBusy : t.busy = s.busy) : QueueStep s t e
  | polled {b : Byte} (sentinel : b = 0xFF#8) (between : s.pos = 0#6) (same : liveFrames t = liveFrames s)
      (lowered : t.busy = (s.busy && !isEmpty s)) : QueueStep s t (.rx b)
  | completed {b : Byte} (f : Frame) (queueable : DecoderInv s → QueueableFrame f)
      (queue : liveFrames t = if isFull s then liveFrames s else liveFrames s ++ [f])
      (raised : t.busy = (s.busy || (!isFull s && decide (22 ≤ (liveFrames t).length)))) : QueueStep s t (.rx b)
  | popped (noFrame : s.dvalid = false) (held : t.dvalid = true) (oldest : liveFrames s = t.dreg :: liveFrames t)
      (sameBusy : t.busy = s.busy) : QueueStep s t .pop
  | emptied {e : Event} (isReset : isResetStep e s = true) (equalIndices : t.head = t.tail) (low : t.busy = false) :
    QueueStep s t e

/-- A receive changes the queue and `BUSY` only by a completion or by a POLL. -/
theorem Reception.queueStep {b : Byte} {s t : State} (r : Reception b s t) : QueueStep s t (.rx b) := by
  cases r with
  | readOnly | encoder | start => exact .kept rfl rfl
  | poll between sentinel =>
    exact .polled sentinel between (liveFrames_congr (by simp) (by simp) (by simp)) (by simp [isEmpty])
  | atOnce f between queueable sent =>
    exact .completed f (fun _ => queueable) (liveFrames_completionOf _) (busy_completionOf _)
  | more => exact .kept (liveFrames_congr (by simp) (by simp) (by simp)) (by simp)
  | last midFrame lastOne =>
    have sameQueue : liveFrames (countPayload (storePayload b s)) = liveFrames s :=
      liveFrames_congr (by simp) (by simp) (by simp)
    have sameRoom : isFull (countPayload (storePayload b s)) = isFull s := by simp [isFull]
    refine .completed (storePayload b s).cur (fun legal => legal.queueable_of_last b midFrame lastOne) ?_ ?_
    · rw [liveFrames_completionOf, sameQueue, sameRoom, countPayload_cur]
    · rw [busy_completionOf, sameRoom, countPayload_busy, storePayload_busy]

theorem Takes.queueStep {e : Event} {s t : State} (h : Takes s e t) : QueueStep s t e := by
  cases h with
  | rx r => exact r.queueStep
  | pop noFrame nonempty =>
    exact .popped noFrame rfl (liveFrames_of_pop ((isEmpty_eq_false s).1 nonempty) rfl rfl rfl) rfl
  | perform | refresh | encMove | btnChange => exact .kept rfl rfl
  | init held isInit => exact .emptied (by simp [isResetStep, held, isInit]) rfl rfl
  | rst => exact .emptied rfl rfl rfl

/-- The script and the record are no part of the queue. -/
theorem QueueStep.of_begun {e : Event} {rest : List Event} {s u : State} (h : QueueStep (begun e rest s) u e) :
    QueueStep s (recordBusy u) e := by
  cases h with
  | kept same sameBusy => exact .kept same sameBusy
  | polled sentinel between same lowered => exact .polled sentinel between same lowered
  | completed f queueable queue raised => exact .completed f queueable queue raised
  | popped noFrame held oldest sameBusy => exact .popped noFrame held oldest sameBusy
  | emptied isReset equalIndices low => exact .emptied isReset equalIndices low

/-- Every step of the machine does one of the five to the queue; with no entry taken it is the first. -/
theorem step_queueStep {s t : State} (h : step s = .next t) :
    (liveFrames t = liveFrames s ∧ t.busy = s.busy) ∨ ∃ e rest, s.script = e :: rest ∧ QueueStep s t e := by
  obtain ⟨e, rest, u, hs, taken, rfl⟩ | ⟨rfl, -⟩ := step_inversion h
  · exact .inr ⟨e, rest, hs, taken.queueStep.of_begun⟩
  · exact .inl ⟨rfl, rfl⟩

/-- `BUSY` on a long queue, by the queue's length (43_flow_control.md R184). -/
theorem busyInv_iff (s : State) : BusyInv s ↔ (22 ≤ (liveFrames s).length → s.busy = true) := by
  rw [liveFrames_length]; exact Iff.rfl

/-- A queue that holds a frame is not empty in the ring's sense. -/
theorem isEmpty_eq_false_of_length_pos {s : State} (frames : 0 < (liveFrames s).length) : isEmpty s = false := by
  rw [liveFrames_length] at frames
  rw [← Bool.not_eq_true, isEmpty_iff_size_eq_zero]
  omega

/-- Settles O38: the queue grows only in a completion, which tests the new length, and `BUSY` falls only with the ring empty. -/
theorem everyStepKeepsBusyOnALongQueue : Obligations.EveryStepKeepsBusyOnALongQueue := by
  intro s t legal h
  rw [busyInv_iff] at legal ⊢
  intro long
  obtain ⟨same, sameBusy⟩ | ⟨e, rest, -, change⟩ := step_queueStep h
  · rw [sameBusy]; exact legal (same ▸ long)
  cases change with
  | kept same sameBusy => rw [sameBusy]; exact legal (same ▸ long)
  | polled sentinel between same lowered =>
    rw [same] at long
    rw [lowered, legal long, isEmpty_eq_false_of_length_pos (by omega)]
    rfl
  | completed f queueable queue raised =>
    cases full : isFull s with
    | true =>
      rw [queue, full, if_pos rfl] at long
      rw [raised, legal long, Bool.true_or]
    | false => rw [raised, full, decide_eq_true long, Bool.not_false, Bool.true_and, Bool.or_true]
  | popped noFrame held oldest sameBusy =>
    rw [sameBusy]
    refine legal ?_
    rw [oldest, List.length_cons]
    omega
  | emptied isReset equalIndices low =>
    rw [liveFrames_of_empty equalIndices] at long
    exact absurd long (by decide)

/-- Settles O40: of the five ways only two lower the flag; and a POLL between frames with the ring empty is one of them. -/
theorem busyFallsOnlyOnPollOrReset : Obligations.BusyFallsOnlyOnPollOrReset := by
  refine ⟨fun s t h high low => ?_, fun s rest hs between empty => ?_⟩
  · obtain ⟨-, sameBusy⟩ | ⟨e, rest, hs, change⟩ := step_queueStep h
    · simp [sameBusy, high] at low
    refine ⟨e, rest, hs, ?_⟩
    cases change with
    | kept _ sameBusy | popped _ _ _ sameBusy => simp [sameBusy, high] at low
    | polled sentinel between same lowered =>
      have empty : isEmpty s = true := by simpa [lowered, high] using low
      exact .inl ⟨by rw [sentinel], between, (isEmpty_eq_true s).1 empty⟩
    | completed f queueable queue raised => simp [raised, high] at low
    | emptied isReset equalIndices _ => exact .inr ⟨isReset, by rw [size, equalIndices, BitVec.sub_self]⟩
  · have polled : Takes (begun (.rx 0xFF#8) rest s) (.rx 0xFF#8) _ := .rx (.poll between rfl)
    refine ⟨_, step_of_takes hs polled, ?_⟩
    have isEmptyToo : isEmpty (loadToread 31#5 (begun (.rx 0xFF#8) rest s)) = true := (isEmpty_eq_true _).2 empty
    rw [recordBusy_busy, deassertBusy_busy, isEmptyToo, Bool.not_true, Bool.and_false]

/-- Settles O41: of the five ways only the completion raises the flag, when it queues a frame and finds 22. -/
theorem busyRisesOnlyAtTheThreshold : Obligations.BusyRisesOnlyAtTheThreshold := by
  intro s t h low high
  obtain ⟨-, sameBusy⟩ | ⟨e, rest, hs, change⟩ := step_queueStep h
  · simp [sameBusy, low] at high
  cases change with
  | kept _ sameBusy | popped _ _ _ sameBusy => simp [sameBusy, low] at high
  | polled sentinel between same lowered => simp [lowered, low] at high
  | completed f queueable queue raised =>
    rw [raised, low, Bool.false_or, Bool.and_eq_true, Bool.not_eq_true', decide_eq_true_iff] at high
    obtain ⟨room, long⟩ := high
    rw [room, if_neg Bool.false_ne_true] at queue
    exact ⟨_, rest, hs, long, f, queue⟩
  | emptied _ _ lowAfter => simp [lowAfter] at high

/-- Settles O42: the five ways, where a completion on a full ring leaves the queue as it is. -/
theorem queueIsFirstInFirstOut : Obligations.QueueIsFirstInFirstOut := by
  intro s t h
  obtain ⟨same, -⟩ | ⟨e, rest, hs, change⟩ := step_queueStep h
  · exact .inl same
  cases change with
  | kept same | polled _ _ same => exact .inl same
  | completed f queueable queue raised =>
    cases full : isFull s with
    | true => rw [full, if_pos rfl] at queue; exact .inl queue
    | false =>
      rw [full, if_neg Bool.false_ne_true] at queue
      exact .inr (.inl ⟨_, rest, f, hs, rfl, queue⟩)
  | popped noFrame held oldest => exact .inr (.inr (.inl ⟨rest, hs, noFrame, held, oldest⟩))
  | emptied isReset equalIndices => exact .inr (.inr (.inr ⟨_, rest, hs, isReset, liveFrames_of_empty equalIndices⟩))

end Sys2Proof.Machine
end

section
/-! The invariant of the block, part by part. -/

namespace Sys2Proof.Machine

theorem step_keeps_decoderInv {s t : State} (h : step s = .next t) (legal : DecoderInv s) : DecoderInv t := by
  obtain ⟨e, rest, u, -, taken, rfl⟩ | ⟨rfl, -⟩ := step_inversion h
  · exact taken.keeps_decoderInv legal
  · exact legal

/-- Only a completion adds a frame, and a legal decoder completes only frames that the framer queues. -/
theorem step_keeps_ringInv {s t : State} (h : step s = .next t) (decoder : DecoderInv s) (legal : RingInv s) :
    RingInv t := by
  intro f live
  obtain ⟨same, -⟩ | ⟨e, rest, -, change⟩ := step_queueStep h
  · exact legal f (same ▸ live)
  cases change with
  | kept same | polled _ _ same => exact legal f (same ▸ live)
  | completed g queueable queue =>
    rw [queue] at live
    split at live
    · exact legal f live
    · rcases List.mem_append.1 live with old | new
      · exact legal f old
      · exact List.mem_singleton.1 new ▸ queueable decoder
  | popped _ _ oldest => exact legal f (oldest ▸ List.mem_cons_of_mem _ live)
  | emptied _ equalIndices =>
    rw [liveFrames_of_empty equalIndices] at live
    exact absurd live List.not_mem_nil

/-- A received byte touches neither `DREG` nor the other registers of the consumer (10_state.md R38). -/
theorem Reception.consumer_unchanged {b : Byte} {s t : State} (r : Reception b s t) :
    t.tail = s.tail ∧ t.dreg = s.dreg ∧ t.dvalid = s.dvalid ∧ t.btn = s.btn ∧ t.btnIn = s.btnIn := by
  cases r <;> simp

/-- A frame comes into `DREG` only out of the queue. -/
theorem Takes.keeps_dregInv {e : Event} {s t : State} (h : Takes s e t) (legal : RingInv s ∧ DregInv s) : DregInv t := by
  intro held
  cases h with
  | rx r =>
    obtain ⟨-, sameDreg, sameDvalid, -, -⟩ := r.consumer_unchanged
    rw [sameDreg]
    exact legal.2 (sameDvalid ▸ held)
  | pop noFrame nonempty =>
    refine legal.1 _ ?_
    rw [liveFrames_of_pop (t := { s with tail := s.tail + 1#5 }) ((isEmpty_eq_false s).1 nonempty) rfl rfl rfl]
    exact List.mem_cons_self
  | perform | init | rst => exact absurd held Bool.false_ne_true
  | refresh | encMove | btnChange => exact legal.2 held

theorem step_keeps_dregInv {s t : State} (h : step s = .next t) (ring : RingInv s) (legal : DregInv s) : DregInv t := by
  obtain ⟨e, rest, u, -, taken, rfl⟩ | ⟨rfl, -⟩ := step_inversion h
  · exact taken.keeps_dregInv ⟨ring, legal⟩
  · exact legal

/-- Settles O37, part by part: the ring rests on the decoder, `DREG` on the ring. -/
theorem everyStepKeepsTheInvariant : Obligations.EveryStepKeepsTheInvariant := by
  rintro s t ⟨decoder, ring, busy, dreg⟩ h
  exact ⟨step_keeps_decoderInv h decoder, step_keeps_ringInv h decoder ring, everyStepKeepsBusyOnALongQueue s t busy h,
    step_keeps_dregInv h ring dreg⟩

end Sys2Proof.Machine
end

section
/-! Who writes what, and how a received byte moves the sequencing state. -/

namespace Sys2Proof.Machine

/-- No step but a receive and a reset writes the receiver's registers (10_state.md R38). -/
theorem Takes.receiver_unchanged {e : Event} {s t : State} (h : Takes s e t) (notReceive : isReceive e = false)
    (notReset : isResetStep e s = false) :
    t.pos = s.pos ∧ t.toread = s.toread ∧ t.cur = s.cur ∧ t.head = s.head ∧ t.slots = s.slots ∧ t.busy = s.busy := by
  cases h with
  | rx => exact absurd notReceive Bool.true_eq_false_eq_False
  | pop | perform | refresh | encMove | btnChange => exact ⟨rfl, rfl, rfl, rfl, rfl, rfl⟩
  | init held isInit => simp [isResetStep, held, isInit] at notReset
  | rst => exact absurd notReset Bool.true_eq_false_eq_False

/-- The environment's steps leave the consumer's registers (10_state.md R38). -/
theorem Takes.consumer_unchanged_of_environment {e : Event} {s t : State} (h : Takes s e t)
    (env : isEnvironment e = true) : t.tail = s.tail ∧ t.dreg = s.dreg ∧ t.dvalid = s.dvalid ∧ t.btn = s.btn := by
  cases h with
  | encMove | btnChange => exact ⟨rfl, rfl, rfl, rfl⟩
  | rx | pop | perform | init | refresh | rst => exact absurd env Bool.false_ne_true

/-- The consumer's steps leave the environment's values, unless they reset the encoder (10_state.md R38). -/
theorem Takes.environment_unchanged {e : Event} {s t : State} (h : Takes s e t) (notReceive : isReceive e = false)
    (notEnv : isEnvironment e = false) (notReset : isResetStep e s = false) : t.enc = s.enc ∧ t.btnIn = s.btnIn := by
  cases h with
  | pop | perform | refresh => exact ⟨rfl, rfl⟩
  | rx => exact absurd notReceive Bool.true_eq_false_eq_False
  | encMove | btnChange => exact absurd notEnv Bool.true_eq_false_eq_False
  | init held isInit => simp [isResetStep, held, isInit] at notReset
  | rst => exact absurd notReset Bool.true_eq_false_eq_False

/-- Either reset gives every register of the block its reset value, and leaves the slots and `DREG` (10_state.md R39). -/
theorem Takes.reset_values {e : Event} {s t : State} (h : Takes s e t) (isReset : isResetStep e s = true) :
    t.pos = 0#6 ∧ t.toread = 0#5 ∧ t.cur = ⟨.read, 0#5, []⟩ ∧ t.head = 0#5 ∧ t.tail = 0#5 ∧ t.busy = false ∧
      t.btn = 0#8 ∧ t.dvalid = false ∧ t.slots = s.slots ∧ t.dreg = s.dreg := by
  cases h with
  | init | rst => exact ⟨rfl, rfl, rfl, rfl, rfl, rfl, rfl, rfl, rfl, rfl⟩
  | perform held notInit => simp [isResetStep, notInit] at isReset
  | rx | pop | refresh | encMove | btnChange => exact absurd isReset Bool.false_ne_true

/-- A reset is never passed over: the INIT frame is held, and the input needs nothing. -/
theorem enabled_of_isResetStep {e : Event} {s : State} (isReset : isResetStep e s = true) : enabled e s = true := by
  cases e with
  | exec => exact (Bool.and_eq_true_iff.1 isReset).1
  | rst => rfl
  | rx | pop | refresh | encMove | btnChange => exact absurd isReset Bool.false_ne_true

/-- Settles O39, agent by agent; an entry that is passed over writes the script alone. -/
theorem agentsWriteOnlyTheirOwnState : Obligations.AgentsWriteOnlyTheirOwnState := by
  intro s t e rest hs h
  obtain ⟨e', rest', u, hs', taken, rfl⟩ | ⟨rfl, passed⟩ := step_inversion h
  · obtain ⟨rfl, rfl⟩ := List.cons.inj (hs'.symm.trans hs)
    refine ⟨fun receive => ?_, taken.receiver_unchanged, taken.consumer_unchanged_of_environment,
      taken.environment_unchanged, taken.reset_values⟩
    cases taken with
    | rx r => exact r.consumer_unchanged
    | pop | perform | init | refresh | encMove | btnChange | rst => exact absurd receive Bool.false_ne_true
  · refine ⟨fun _ => ⟨rfl, rfl, rfl, rfl, rfl⟩, fun _ _ => ⟨rfl, rfl, rfl, rfl, rfl, rfl⟩, fun _ => ⟨rfl, rfl, rfl, rfl⟩,
      fun _ _ _ => ⟨rfl, rfl⟩, fun isReset => ?_⟩
    exact absurd ((enabled_of_isResetStep isReset).symm.trans (passed e rest hs)) Bool.true_eq_false_eq_False

/-- The framed commands are the bytes `0x40` to `0xDF` (30_encoding.md R84). -/
theorem isFramed_opcodeOf_iff (b : Byte) : isFramed (opcodeOf b) = true ↔ 0x40 ≤ b.toNat ∧ b.toNat ≤ 0xDF := by
  obtain ⟨op, len, rfl⟩ : ∃ op len, b = packFields op len := ⟨_, _, (packFields_opcodeOf_lenField b).symm⟩
  have fits := len.isLt
  rw [opcodeOf_packFields, packFields_toNat]
  cases op <;> simp only [isFramed, opcodeBits, BitVec.toNat_ofNat, reduceCtorEq, true_iff, false_iff] <;> omega

/-- The length field is 0 for the multiples of 32 (30_encoding.md R81). -/
theorem lenField_eq_zero_iff (b : Byte) : lenField b = 0#5 ↔ b.toNat % 32 = 0 := by
  rw [← BitVec.toNat_inj, lenField_toNat]
  rfl

/-- A command byte writes its length to `TOREAD`, and only a frame that waits for its payload leaves AwaitingOpcode
(10_state.md section 2). -/
theorem Reception.sequencing_between {b : Byte} {s t : State} (r : Reception b s t) (between : s.pos = 0#6) :
    t.toread = lenField b ∧
      t.pos = if isFramed (opcodeOf b) = true ∧ lenField b ≠ 0#5 then 1#6 else 0#6 := by
  cases r with
  | readOnly _ only =>
    obtain ⟨unframed, -⟩ := only
    refine ⟨rfl, ?_⟩
    rw [if_neg (by simp [unframed])]
    exact between
  | encoder _ query => subst query; exact ⟨rfl, between⟩
  | poll _ sentinel => subst sentinel; exact ⟨deassertBusy_toread _, (deassertBusy_pos _).trans between⟩
  | start _ framed waits => exact ⟨rfl, (if_pos ⟨framed, waits⟩).symm⟩
  | atOnce f _ queueable sent =>
    refine ⟨completionOf_toread _, ?_⟩
    obtain ⟨rfl, -⟩ | ⟨-, rfl, -⟩ := eq_of_wireBytes_singleton queueable sent
    · exact completionOf_pos _
    · rw [completionOf_pos, lenField_packFields, if_neg (by simp)]
  | more midFrame | last midFrame => exact absurd between midFrame

/-- A payload byte is counted, and the last one returns to AwaitingOpcode (10_state.md section 2). -/
theorem Reception.sequencing_midFrame {b : Byte} {s t : State} (r : Reception b s t) (midFrame : s.pos ≠ 0#6) :
    t.toread = s.toread - 1#5 ∧ t.pos = if s.toread = 1#5 then 0#6 else s.pos + 1#6 := by
  cases r with
  | more _ left => exact ⟨by simp, by simp [left]⟩
  | last _ lastOne => exact ⟨by simp, by simp [lastOne]⟩
  | readOnly between | encoder between | poll between | start between | atOnce _ between =>
    exact absurd between midFrame

/-- Settles O45, by the sequencing rule of each decoder state. -/
theorem receivedBytesMoveTheSequencingState : Obligations.ReceivedBytesMoveTheSequencingState := by
  intro s t b rest hs h
  obtain ⟨e, rest', u, hs', taken, rfl⟩ | ⟨-, passed⟩ := step_inversion h
  · obtain ⟨rfl, rfl⟩ := List.cons.inj (hs'.symm.trans hs)
    cases taken with
    | rx r =>
      refine ⟨fun between => ?_, fun midFrame left => ?_, fun midFrame lastOne => ?_⟩
      · obtain ⟨read, moved⟩ := r.sequencing_between between
        refine ⟨read, moved.trans ?_⟩
        simp only [isFramed_opcodeOf_iff, ne_eq, lenField_eq_zero_iff, and_assoc]
      · obtain ⟨read, moved⟩ := r.sequencing_midFrame midFrame
        exact ⟨moved.trans (if_neg left), read⟩
      · obtain ⟨read, moved⟩ := r.sequencing_midFrame midFrame
        exact ⟨moved.trans (if_pos lastOne), read.trans (congrArg (· - 1#5) lastOne)⟩
  · exact absurd (passed _ rest hs) Bool.true_eq_false_eq_False

end Sys2Proof.Machine
end

section
/-! Which step emits what, and the record of it. -/

namespace Sys2Proof.Machine

/-- The outputs of a step that is taken, in order (00_scope.md R8). -/
def outputsOf (e : Event) (s : State) : List Output :=
  match e with
  | .rx b =>
    if s.pos = 0#6 then
      if b = 0x21#8 then [.encoderReset, .reply (narrowEncoder Config.encNarrow s.enc)] else mirrorReplies b s
    else []
  | .pop => []
  | .exec => frameOutputs s.dreg
  | .refresh => []
  | .encMove _ => []
  | .btnChange _ => []
  | .rst => [.encoderReset]

/-- The bytes that end or start a frame, and POLL, ask for no reply. -/
theorem mirrorReplies_of_ne {b : Byte} (notButtons : b ≠ 0x20#8) (notQdepth : b ≠ 0x22#8) (s : State) :
    mirrorReplies b s = [] := by rw [mirrorReplies, if_neg notButtons, if_neg notQdepth]

/-- A framed command is no query: its opcode is not 1. -/
theorem ne_getStatus_of_isFramed {b : Byte} (framed : isFramed (opcodeOf b) = true) (len : Len) :
    b ≠ packFields .getStatus len := by
  rintro rfl
  rw [opcodeOf_packFields] at framed
  exact absurd framed Bool.false_ne_true

theorem outputsOf_rx_of_isFramed {b : Byte} (framed : isFramed (opcodeOf b) = true) (s : State) :
    outputsOf (.rx b) s = [] := by
  have notButtons : b ≠ 0x20#8 := buttonsWord ▸ ne_getStatus_of_isFramed framed 0#5
  have notEncoder : b ≠ 0x21#8 := encoderWord ▸ ne_getStatus_of_isFramed framed 1#5
  have notQdepth : b ≠ 0x22#8 := qdepthWord ▸ ne_getStatus_of_isFramed framed 2#5
  simp only [outputsOf, if_neg notEncoder, mirrorReplies_of_ne notButtons notQdepth, ite_self]

/-- Nor is a byte that is a whole frame a query. -/
theorem outputsOf_rx_of_sent {f : Frame} {b : Byte} (queueable : QueueableFrame f) (sent : wireBytes f = [b]) (s : State) :
    outputsOf (.rx b) s = [] := by
  obtain ⟨rfl, -⟩ | ⟨framed, rfl, -⟩ := eq_of_wireBytes_singleton queueable sent
  · exact ite_self _
  · exact outputsOf_rx_of_isFramed (by rw [opcodeOf_packFields]; exact framed) s

/-- A received byte adds its outputs to the record and nothing else. -/
theorem Reception.trace_eq {b : Byte} {s t : State} (r : Reception b s t) :
    t.trace = s.trace ++ (outputsOf (.rx b) s).map .output := by
  cases r with
  | readOnly between only =>
    obtain ⟨-, notEncoder, -, -⟩ := only
    rw [outputsOf, if_pos between, if_neg notEncoder]; rfl
  | encoder between query => rw [outputsOf, if_pos between, if_pos query]; simp
  | poll between sentinel =>
    have silent : outputsOf (.rx b) s = [] := by rw [outputsOf, sentinel]; exact ite_self _
    rw [silent, deassertBusy_trace]; exact (List.append_nil _).symm
  | start between framed waits =>
    rw [outputsOf_rx_of_isFramed framed]; exact (List.append_nil _).symm
  | atOnce f between queueable sent =>
    rw [outputsOf_rx_of_sent queueable sent, completionOf_trace]; exact (List.append_nil _).symm
  | more midFrame | last midFrame => rw [outputsOf, if_neg midFrame]; simp

/-- A step that is taken adds its outputs to the record and nothing else. -/
theorem Takes.trace_eq {e : Event} {s t : State} (h : Takes s e t) :
    t.trace = s.trace ++ (outputsOf e s).map .output := by
  cases h with
  | rx r => exact r.trace_eq
  | perform => rfl
  | init held isInit => rw [outputsOf, frameOutputs, isInit]; rfl
  | rst => rfl
  | pop | refresh | encMove | btnChange => exact (List.append_nil _).symm

/-- The entries that hold an output are the outputs. -/
theorem filterMap_obsOutput_map_output (os : List Output) : (os.map Obs.output).filterMap obsOutput = os := by
  rw [List.filterMap_map]
  exact List.filterMap_some

/-- The outputs between two states of a run are those of the entries added. -/
theorem outputsBetween_of_trace {s t : State} {added : List Obs} (grown : t.trace = s.trace ++ added) :
    outputsBetween s t = added.filterMap obsOutput := by
  rw [outputsBetween, grown, List.drop_left]

/-- The record of a step that is taken: its entry, its outputs, the level it leaves (log 5). -/
theorem Takes.trace_recordBusy {e : Event} {rest : List Event} {s u : State} (h : Takes (begun e rest s) e u) :
    (recordBusy u).trace = s.trace ++ (.took e :: (outputsOf e s).map .output ++ [.busyLevel u.busy]) := by
  have sameOutputs : outputsOf e (begun e rest s) = outputsOf e s := by cases e <;> rfl
  rw [recordBusy_trace, h.trace_eq, sameOutputs, recordStep_trace, withScript_trace]
  simp

/-- The outputs that a taken step shows are those it emits. -/
theorem Takes.outputsBetween_eq {e : Event} {rest : List Event} {s u : State} (h : Takes (begun e rest s) e u) :
    outputsBetween s (recordBusy u) = outputsOf e s := by
  rw [outputsBetween_of_trace h.trace_recordBusy, List.filterMap_append, List.filterMap_cons_none rfl,
    filterMap_obsOutput_map_output, List.filterMap_cons_none rfl, List.filterMap_nil, List.append_nil]

/-- Settles O48, by the record of a taken step and the outputs read back from it. -/
theorem takenStepsAreRecorded : Obligations.TakenStepsAreRecorded := by
  intro s t e rest hs he h
  obtain ⟨e', rest', u, hs', taken, rfl⟩ | ⟨-, passed⟩ := step_inversion h
  · obtain ⟨rfl, rfl⟩ := List.cons.inj (hs'.symm.trans hs)
    rw [taken.outputsBetween_eq, taken.trace_recordBusy, List.append_assoc]
    rfl
  · exact absurd (he.symm.trans (passed e rest hs)) Bool.true_eq_false_eq_False

/-- A frame emits nothing exactly when its header is outside every contract (60_exceptions.md R223). -/
theorem frameOutputs_eq_nil_iff (f : Frame) : frameOutputs f = [] ↔ isMalformed f.opcode f.length = true := by
  have one : f.length = 1#5 ↔ f.length.toNat = 1 := BitVec.toNat_inj.symm
  rw [frameOutputs]
  cases f.opcode with
  | read | getStatus | lcdClear | other => simp [isMalformed]
  | setCursor | setLeds => simp [isMalformed, one]
  | lcdWrite => simp [isMalformed]
  | beep =>
    by_cases three : f.length = 3#5
    · simp [isMalformed, three]
    · simp [isMalformed, three]

/-- The INIT frame emits `Encoder.reset`, so a silent frame is none. -/
theorem ne_other_of_frameOutputs_nil {f : Frame} (silent : frameOutputs f = []) : f.opcode ≠ .other := by
  intro isInit
  rw [frameOutputs, isInit] at silent
  exact absurd silent (List.cons_ne_nil _ _)

/-- Settles O46: the outputs shown are the frame's, and a frame without outputs is only taken. -/
theorem malformedFramesAreIgnored : Obligations.MalformedFramesAreIgnored := by
  intro s rest hs held
  obtain ⟨t, h⟩ := step_answers_next s
  obtain ⟨e, rest', u, hs', taken, rfl⟩ | ⟨-, passed⟩ := step_inversion h
  · obtain ⟨rfl, rfl⟩ := List.cons.inj (hs'.symm.trans hs)
    refine ⟨_, h, ?_, fun malformed => ?_⟩
    · rw [taken.outputsBetween_eq]
      exact frameOutputs_eq_nil_iff s.dreg
    · have silent : frameOutputs s.dreg = [] := (frameOutputs_eq_nil_iff s.dreg).2 malformed
      cases taken with
      | init _ isInit => exact absurd isInit (ne_other_of_frameOutputs_nil silent)
      | perform =>
        have noOutputs : frameOutputs (begun .exec rest' s).dreg = [] := silent
        rw [noOutputs, ← trace_append_two, emitAll, List.map_nil, List.append_nil]
        rfl
  · exact absurd (held.symm.trans (passed .exec rest hs)) Bool.true_eq_false_eq_False

/-- A received byte emits only as one of the three queries, between frames (42_status_control.md R162 to R164). -/
theorem mem_outputsOf_rx {b : Byte} {s : State} {o : Output} (emitted : o ∈ outputsOf (.rx b) s) :
    s.pos = 0#6 ∧ ((b = 0x20#8 ∧ o = .reply s.btn) ∨
      (b = 0x21#8 ∧ (o = .encoderReset ∨ o = .reply (narrowEncoder Config.encNarrow s.enc))) ∨
      (b = 0x22#8 ∧ o = .reply (depthReply (size s)))) := by
  by_cases between : s.pos = 0#6
  · refine ⟨between, ?_⟩
    rw [outputsOf, if_pos between] at emitted
    by_cases encoder : b = 0x21#8
    · rw [if_pos encoder] at emitted
      exact .inr (.inl ⟨encoder, by simpa using emitted⟩)
    rw [if_neg encoder] at emitted
    by_cases buttons : b = 0x20#8
    · rw [mirrorReplies, if_pos buttons] at emitted
      exact .inl ⟨buttons, List.mem_singleton.1 emitted⟩
    by_cases qdepth : b = 0x22#8
    · rw [mirrorReplies, if_neg buttons, if_pos qdepth] at emitted
      exact .inr (.inr ⟨qdepth, List.mem_singleton.1 emitted⟩)
    rw [mirrorReplies_of_ne buttons qdepth] at emitted
    exact absurd emitted List.not_mem_nil
  · rw [outputsOf, if_neg between] at emitted
    exact absurd emitted List.not_mem_nil

/-- The operations of a frame are those of its opcode, and need the contract on its length (44_dispatch.md R195 to R200). -/
theorem mem_frameOutputs {f : Frame} {o : Output} (emitted : o ∈ frameOutputs f) :
    (f.opcode = .setCursor ∧ f.length = 1#5 ∧ ∃ row col, o = .displaySetCursor row col) ∨
    (f.opcode = .lcdWrite ∧ ∃ c, o = .displayWrite c) ∨
    (f.opcode = .lcdClear ∧ o = .displayClear) ∨
    (f.opcode = .setLeds ∧ f.length = 1#5 ∧ ∃ mask, o = .displaySetBacklight mask) ∨
    (f.opcode = .beep ∧ ∃ duration frequency, o = .buzz duration frequency) ∨
    (f.opcode = .other ∧ o = .encoderReset) := by
  rw [frameOutputs] at emitted
  cases hop : f.opcode with
  | read | getStatus => simp [hop] at emitted
  | setCursor | setLeds =>
    by_cases one : f.length = 1#5
    · simp only [hop, one, if_true, List.mem_singleton] at emitted
      simp [one, emitted]
    · simp [hop, one] at emitted
  | lcdWrite =>
    simp only [hop, List.mem_map] at emitted
    obtain ⟨k, -, rfl⟩ := emitted
    simp
  | lcdClear | other => simpa [hop] using emitted
  | beep =>
    by_cases three : f.length = 3#5
    · simp only [hop, three, if_true, List.mem_singleton] at emitted
      simp [emitted]
    · simp only [hop, three, if_false, List.mem_singleton] at emitted
      simp [emitted]

/-- Settles O47: an output is one of a taken step, which is a receive, an execution or the `rst` input. -/
theorem outputsComeOnlyFromTheirSteps : Obligations.OutputsComeOnlyFromTheirSteps := by
  intro s t o h emitted
  obtain ⟨e, rest, u, hs, taken, rfl⟩ | ⟨rfl, -⟩ := step_inversion h
  · rw [taken.outputsBetween_eq] at emitted
    refine ⟨e, rest, hs, ?_⟩
    cases taken with
    | rx =>
      obtain ⟨between, ⟨rfl, rfl⟩ | ⟨rfl, rfl | rfl⟩ | ⟨rfl, rfl⟩⟩ := mem_outputsOf_rx emitted
      · exact ⟨between, .inl ⟨rfl, rfl⟩⟩
      · exact .inl ⟨rfl, between⟩
      · exact ⟨between, .inr (.inl ⟨rfl, rfl⟩)⟩
      · exact ⟨between, .inr (.inr ⟨rfl, by rw [depthReply_toNat, liveFrames_length]⟩)⟩
    | perform held | init held =>
      have dvalid : s.dvalid = true := held
      obtain ⟨op, one, row, col, rfl⟩ | ⟨op, c, rfl⟩ | ⟨op, rfl⟩ | ⟨op, one, mask, rfl⟩ | ⟨op, dur, freq, rfl⟩ |
        ⟨op, rfl⟩ := mem_frameOutputs emitted
      · exact ⟨rfl, dvalid, op, one⟩
      · exact ⟨rfl, dvalid, op⟩
      · exact ⟨rfl, dvalid, op⟩
      · exact ⟨rfl, dvalid, op, one⟩
      · exact ⟨rfl, dvalid, op⟩
      · exact .inr (by simp [isResetStep, dvalid, op])
    | rst =>
      obtain rfl := List.mem_singleton.1 emitted
      exact .inr rfl
    | pop | refresh | encMove | btnChange => exact absurd emitted List.not_mem_nil
  · have unrecorded : outputsBetween s (withScript s.script.tail s) = [] :=
      outputsBetween_of_trace (added := []) (List.append_nil _).symm
    rw [unrecorded] at emitted
    exact absurd emitted List.not_mem_nil

end Sys2Proof.Machine
end

section
/-! What cannot be observed: a step goes the same way from two states that differ only where the step does not look. -/

namespace Sys2Proof.Machine

/-- A relation of two states that the same script drives in step: the guards agree, and what one may take the other may take
too, to states that are related again. -/
structure Simulation (R : State → State → Prop) : Prop where
  script_eq {s s' : State} : R s s' → s'.script = s.script
  enabled_eq {s s' : State} (e : Event) : R s s' → enabled e s' = enabled e s
  withScript {s s' : State} (rest : List Event) : R s s' → R (withScript rest s) (withScript rest s')
  recordStep {s s' : State} (e : Event) : R s s' → R (recordStep e s) (recordStep e s')
  takes {s s' u : State} {e : Event} : R s s' → Takes s e u → ∃ u', Takes s' e u' ∧ R u u'

/-- Related states step together: both pass the entry over, or both take it, and then only the recorded level may differ. -/
theorem Simulation.step {R : State → State → Prop} (sim : Simulation R) {s s' t : State} (related : R s s')
    (h : step s = .next t) : ∃ t', Machine.step s' = .next t' ∧
      (t = Machine.withScript s.script.tail s ∧ R t t' ∨
        ∃ e rest u u', Takes (begun e rest s) e u ∧ Takes (begun e rest s') e u' ∧ R u u' ∧
          t = recordBusy u ∧ t' = recordBusy u') := by
  obtain ⟨e, rest, u, hs, taken, rfl⟩ | ⟨rfl, passed⟩ := step_inversion h
  · obtain ⟨u', taken', related'⟩ := sim.takes (sim.recordStep e (sim.withScript rest related)) taken
    exact ⟨_, step_of_takes ((sim.script_eq related).trans hs) taken',
      .inr ⟨e, rest, u, u', taken, taken', related', rfl, rfl⟩⟩
  · refine ⟨Machine.withScript s.script.tail s', ?_, .inl ⟨rfl, sim.withScript _ related⟩⟩
    cases hs : s.script with
    | nil =>
      have idle : s'.script = [] := (sim.script_eq related).trans hs
      rw [step_of_idle idle, List.tail_nil, Machine.withScript, ← idle]
    | cons e rest =>
      exact step_of_disabled ((sim.script_eq related).trans hs) ((sim.enabled_eq e related).trans (passed e rest hs))

/-- When the recorded level agrees too, related states step to related states. -/
theorem Simulation.step_related {R : State → State → Prop} (sim : Simulation R)
    (recordBusy : ∀ {u u' : State}, R u u' → R (recordBusy u) (recordBusy u')) {s s' t : State} (related : R s s')
    (h : Machine.step s = .next t) : ∃ t', Machine.step s' = .next t' ∧ R t t' := by
  obtain ⟨t', h', ⟨-, related'⟩ | ⟨e, rest, u, u', -, -, related', rfl, rfl⟩⟩ := sim.step related h
  · exact ⟨t', h', related'⟩
  · exact ⟨_, h', recordBusy related'⟩

/-! ### The receiver's updates as records, to compare them in two states -/

theorem deassertBusy_eq (s : State) : deassertBusy s = { s with busy := s.busy && !isEmpty s } := by
  cases empty : isEmpty s with
  | true => rw [deassertBusy, if_pos empty, Bool.not_true, Bool.and_false]
  | false => rw [deassertBusy, if_neg (by simp [empty]), Bool.not_false, Bool.and_true]

theorem storePayload_eq (b : Byte) (s : State) : storePayload b s = { s with
    cur := if (s.pos - 1#6).toNat < Config.maxPayload then { s.cur with payload := s.cur.payload ++ [b] } else s.cur } := by
  unfold storePayload
  split <;> rfl

/-! ### `TOREAD` between frames -/

/-- The same state but for `TOREAD`, and the same `TOREAD` in mid-frame. -/
def SameButDeadToread (s s' : State) : Prop := ∃ x : Len, s' = { s with toread := x } ∧ (s.pos ≠ 0#6 → x = s.toread)

theorem SameButDeadToread.refl (s : State) : SameButDeadToread s s := ⟨s.toread, rfl, fun _ => rfl⟩

theorem SameButDeadToread.recordBusy {s s' : State} (same : SameButDeadToread s s') :
    SameButDeadToread (recordBusy s) (recordBusy s') := by
  obtain ⟨x, rfl, dead⟩ := same
  exact ⟨x, rfl, dead⟩

/-- A command byte overwrites `TOREAD` before anything reads it; the other agents do not touch it (10_state.md R24). -/
theorem simulation_sameButDeadToread : Simulation SameButDeadToread where
  script_eq := by rintro s s' ⟨x, rfl, -⟩; rfl
  enabled_eq e := by rintro ⟨x, rfl, -⟩; cases e <;> rfl
  withScript rest := by rintro ⟨x, rfl, dead⟩; exact ⟨x, rfl, dead⟩
  recordStep e := by rintro ⟨x, rfl, dead⟩; exact ⟨x, rfl, dead⟩
  takes := by
    rintro s s' u e ⟨x, rfl, dead⟩ h
    cases h with
    | rx r =>
      cases r with
      | readOnly between only => exact ⟨_, .rx (.readOnly between only), _, rfl, fun _ => rfl⟩
      | encoder between query => exact ⟨_, .rx (.encoder between query), _, rfl, fun _ => rfl⟩
      | poll between sentinel => exact ⟨_, .rx (.poll between sentinel), _, rfl, fun _ => rfl⟩
      | start between framed waits => exact ⟨_, .rx (.start between framed waits), _, rfl, fun _ => rfl⟩
      | atOnce f between queueable sent => exact ⟨_, .rx (.atOnce f between queueable sent), _, rfl, fun _ => rfl⟩
      | more midFrame left =>
        rw [dead midFrame]
        exact ⟨_, .rx (.more midFrame left), .refl _⟩
      | last midFrame lastOne =>
        rw [dead midFrame]
        exact ⟨_, .rx (.last midFrame lastOne), .refl _⟩
    | pop noFrame nonempty => exact ⟨_, .pop noFrame nonempty, x, rfl, dead⟩
    | perform held notInit => exact ⟨_, .perform held notInit, x, rfl, dead⟩
    | init held isInit => exact ⟨_, .init held isInit, _, rfl, fun _ => rfl⟩
    | refresh => exact ⟨_, .refresh, x, rfl, dead⟩
    | encMove d => exact ⟨_, .encMove d, x, rfl, dead⟩
    | btnChange m => exact ⟨_, .btnChange m, x, rfl, dead⟩
    | rst => exact ⟨_, .rst, _, rfl, fun _ => rfl⟩

/-- Settles O50: the two states stay the same but for a dead `TOREAD`. -/
theorem toreadIsDeadBetweenFrames : Obligations.ToreadIsDeadBetweenFrames := by
  intro s t x between h
  have related : SameButDeadToread s { s with toread := x } := ⟨x, rfl, fun midFrame => absurd between midFrame⟩
  obtain ⟨t', h', y, rfl, dead⟩ := simulation_sameButDeadToread.step_related .recordBusy related h
  exact ⟨_, h', rfl, fun midFrame => by rw [dead midFrame]⟩

/-! ### `DREG` while no frame is held -/

/-- The same state but for `DREG`, and the same `DREG` while a frame is held. -/
def SameButDeadDreg (s s' : State) : Prop := ∃ f : Frame, s' = { s with dreg := f } ∧ (s.dvalid = true → f = s.dreg)

theorem SameButDeadDreg.recordBusy {s s' : State} (same : SameButDeadDreg s s') :
    SameButDeadDreg (recordBusy s) (recordBusy s') := by
  obtain ⟨f, rfl, dead⟩ := same
  exact ⟨f, rfl, dead⟩

theorem completionOf_with_dreg (f : Frame) (s : State) :
    completionOf { s with dreg := f } = { completionOf s with dreg := f } := by
  by_cases full : s.head + 1#5 = s.tail <;> simp only [completionOf, full, if_true, if_false]

theorem deassertBusy_with_dreg (f : Frame) (s : State) :
    deassertBusy { s with dreg := f } = { deassertBusy s with dreg := f } := by
  rw [deassertBusy_eq, deassertBusy_eq]; rfl

theorem storeAndCount_with_dreg (b : Byte) (f : Frame) (s : State) :
    countPayload (storePayload b { s with dreg := f }) = { countPayload (storePayload b s) with dreg := f } := by
  rw [storePayload_eq, storePayload_eq]; rfl

/-- The receiver does not read `DREG`. -/
theorem Reception.with_dreg {b : Byte} {s t : State} (r : Reception b s t) (f : Frame) :
    ∃ t', Reception b { s with dreg := f } t' ∧ t' = { t with dreg := f } := by
  cases r with
  | readOnly between only => exact ⟨_, .readOnly between only, rfl⟩
  | encoder between query => exact ⟨_, .encoder between query, rfl⟩
  | poll between sentinel => exact ⟨_, .poll between sentinel, deassertBusy_with_dreg f (loadToread 31#5 s)⟩
  | start between framed waits => exact ⟨_, .start between framed waits, rfl⟩
  | atOnce g between queueable sent =>
    exact ⟨_, .atOnce g between queueable sent, completionOf_with_dreg f { s with toread := lenField b, cur := g }⟩
  | more midFrame left => exact ⟨_, .more midFrame left, storeAndCount_with_dreg b f s⟩
  | last midFrame lastOne =>
    refine ⟨_, .last midFrame lastOne, ?_⟩
    rw [storeAndCount_with_dreg b f s, completionOf_with_dreg]

/-- A pop overwrites `DREG` before an execution reads it, and nothing else touches it (10_state.md R34). -/
theorem simulation_sameButDeadDreg : Simulation SameButDeadDreg where
  script_eq := by rintro s s' ⟨f, rfl, -⟩; rfl
  enabled_eq e := by rintro ⟨f, rfl, -⟩; cases e <;> rfl
  withScript rest := by rintro ⟨f, rfl, dead⟩; exact ⟨f, rfl, dead⟩
  recordStep e := by rintro ⟨f, rfl, dead⟩; exact ⟨f, rfl, dead⟩
  takes := by
    rintro s s' u e ⟨f, rfl, dead⟩ h
    cases h with
    | rx r =>
      obtain ⟨-, sameDreg, sameDvalid, -, -⟩ := r.consumer_unchanged
      obtain ⟨t', r', same⟩ := r.with_dreg f
      exact ⟨t', .rx r', f, same, fun held => (dead (sameDvalid ▸ held)).trans sameDreg.symm⟩
    | pop noFrame nonempty => exact ⟨_, .pop noFrame nonempty, _, rfl, fun _ => rfl⟩
    | perform held notInit =>
      obtain rfl := dead held
      exact ⟨_, .perform held notInit, _, rfl, fun _ => rfl⟩
    | init held isInit =>
      obtain rfl := dead held
      exact ⟨_, .init held isInit, _, rfl, fun _ => rfl⟩
    | refresh => exact ⟨_, .refresh, f, rfl, dead⟩
    | encMove d => exact ⟨_, .encMove d, f, rfl, dead⟩
    | btnChange m => exact ⟨_, .btnChange m, f, rfl, dead⟩
    | rst => exact ⟨_, .rst, f, rfl, fun held => absurd held Bool.false_ne_true⟩

/-- Settles O51: the two states stay the same but for a dead `DREG`. -/
theorem dregIsDeadWhileInvalid : Obligations.DregIsDeadWhileInvalid := by
  intro s t f noFrame h
  have related : SameButDeadDreg s { s with dreg := f } :=
    ⟨f, rfl, fun held => absurd (noFrame.symm.trans held) Bool.false_ne_true⟩
  obtain ⟨t', h', g, rfl, dead⟩ := simulation_sameButDeadDreg.step_related .recordBusy related h
  exact ⟨_, h', rfl, fun held => by rw [dead held]⟩

/-! ### `BUSY` -/

/-- The same state but for `BUSY`. -/
def SameButBusy (s s' : State) : Prop := ∃ level : Bool, s' = { s with busy := level }

theorem completionOf_sameButBusy (level : Bool) (s : State) :
    SameButBusy (completionOf s) (completionOf { s with busy := level }) := by
  by_cases full : s.head + 1#5 = s.tail
  · exact ⟨level, by simp only [completionOf, full, if_true]⟩
  · exact ⟨level || decide (22 ≤ (s.head + 1#5 - s.tail).toNat), by simp only [completionOf, full, if_false]⟩

theorem deassertBusy_sameButBusy (level : Bool) (s : State) :
    SameButBusy (deassertBusy s) (deassertBusy { s with busy := level }) :=
  ⟨level && !isEmpty s, by rw [deassertBusy_eq, deassertBusy_eq]; rfl⟩

theorem storeAndCount_with_busy (b : Byte) (level : Bool) (s : State) :
    countPayload (storePayload b { s with busy := level }) = { countPayload (storePayload b s) with busy := level } := by
  rw [storePayload_eq, storePayload_eq]; rfl

/-- The receiver writes `BUSY`, and neither it nor what it emits depends on it (43_flow_control.md section 2). -/
theorem Reception.sameButBusy {b : Byte} {s t : State} (r : Reception b s t) (level : Bool) :
    ∃ t', Reception b { s with busy := level } t' ∧ SameButBusy t t' := by
  cases r with
  | readOnly between only => exact ⟨_, .readOnly between only, level, rfl⟩
  | encoder between query => exact ⟨_, .encoder between query, level, rfl⟩
  | poll between sentinel => exact ⟨_, .poll between sentinel, deassertBusy_sameButBusy level _⟩
  | start between framed waits => exact ⟨_, .start between framed waits, level, rfl⟩
  | atOnce g between queueable sent => exact ⟨_, .atOnce g between queueable sent, completionOf_sameButBusy level _⟩
  | more midFrame left =>
    exact ⟨_, .more midFrame left, level, storeAndCount_with_busy b level s⟩
  | last midFrame lastOne =>
    refine ⟨_, .last midFrame lastOne, ?_⟩
    rw [storeAndCount_with_busy b level s]
    exact completionOf_sameButBusy level _

theorem simulation_sameButBusy : Simulation SameButBusy where
  script_eq := by rintro s s' ⟨level, rfl⟩; rfl
  enabled_eq e := by rintro ⟨level, rfl⟩; cases e <;> rfl
  withScript rest := by rintro ⟨level, rfl⟩; exact ⟨level, rfl⟩
  recordStep e := by rintro ⟨level, rfl⟩; exact ⟨level, rfl⟩
  takes := by
    rintro s s' u e ⟨level, rfl⟩ h
    cases h with
    | rx r =>
      obtain ⟨t', r', same⟩ := r.sameButBusy level
      exact ⟨t', .rx r', same⟩
    | pop noFrame nonempty => exact ⟨_, .pop noFrame nonempty, level, rfl⟩
    | perform held notInit => exact ⟨_, .perform held notInit, level, rfl⟩
    | init held isInit => exact ⟨_, .init held isInit, false, rfl⟩
    | refresh => exact ⟨_, .refresh, level, rfl⟩
    | encMove d => exact ⟨_, .encMove d, level, rfl⟩
    | btnChange m => exact ⟨_, .btnChange m, level, rfl⟩
    | rst => exact ⟨_, .rst, false, rfl⟩

/-- Settles O49: the two states stay the same but for `BUSY` and its level in the record, and no output depends on it. -/
theorem nothingReadsBusy : Obligations.NothingReadsBusy := by
  intro s t level h
  obtain ⟨t', h', ⟨rfl, l, rfl⟩ | ⟨e, rest, u, u', taken, taken', ⟨l, rfl⟩, rfl, rfl⟩⟩ :=
    simulation_sameButBusy.step (s' := { s with busy := level }) ⟨level, rfl⟩ h
  · exact ⟨_, h', rfl, rfl⟩
  · refine ⟨_, h', rfl, ?_⟩
    have sameOutputs : outputsOf e { s with busy := level } = outputsOf e s := by cases e <;> rfl
    calc outputsBetween s (recordBusy { u with busy := l })
        = outputsOf e { s with busy := level } := taken'.outputsBetween_eq
      _ = outputsOf e s := sameOutputs
      _ = outputsBetween s (recordBusy u) := taken.outputsBetween_eq.symm

/-! ### The slots outside the queue -/

/-- The same state but for the slots, with the same queue. -/
def SameQueue (s s' : State) : Prop :=
  ∃ sl : Vector Frame Config.nSlots, s' = { s with slots := sl } ∧ liveFrames { s with slots := sl } = liveFrames s

theorem SameQueue.recordBusy {s s' : State} (same : SameQueue s s') : SameQueue (recordBusy s) (recordBusy s') := by
  obtain ⟨sl, rfl, sameQueue⟩ := same
  exact ⟨sl, rfl, sameQueue⟩

/-- A queue that other slots hold as well is held by them still when neither slots nor indices are written. -/
theorem liveFrames_with_slots_congr {s t : State} {sl : Vector Frame Config.nSlots}
    (same : liveFrames { s with slots := sl } = liveFrames s) (hs : t.slots = s.slots) (hh : t.head = s.head)
    (ht : t.tail = s.tail) : liveFrames { t with slots := sl } = liveFrames t :=
  calc liveFrames { t with slots := sl }
      = liveFrames { s with slots := sl } := liveFrames_congr rfl hh ht
    _ = liveFrames s := same
    _ = liveFrames t := (liveFrames_congr hs hh ht).symm

/-- Any slots hold an empty queue. -/
theorem liveFrames_with_slots_of_empty {s : State} (sl : Vector Frame Config.nSlots) (empty : s.head = s.tail) :
    liveFrames { s with slots := sl } = liveFrames s := by
  rw [liveFrames_of_empty empty]
  exact liveFrames_of_empty empty

/-- Completion appends the same frame to the same queue, or drops it in both. -/
theorem completionOf_sameQueue {s : State} {sl : Vector Frame Config.nSlots}
    (same : liveFrames { s with slots := sl } = liveFrames s) :
    SameQueue (completionOf s) (completionOf { s with slots := sl }) := by
  have fields : completionOf { s with slots := sl } =
      { completionOf s with slots := (completionOf { s with slots := sl }).slots } := by
    by_cases full : s.head + 1#5 = s.tail <;> simp only [completionOf, full, if_true, if_false]
  have sameRoom : isFull { s with slots := sl } = isFull s := rfl
  refine ⟨_, fields, ?_⟩
  rw [← fields, liveFrames_completionOf, liveFrames_completionOf, same, sameRoom]

theorem deassertBusy_with_slots (sl : Vector Frame Config.nSlots) (s : State) :
    deassertBusy { s with slots := sl } = { deassertBusy s with slots := sl } := by
  rw [deassertBusy_eq, deassertBusy_eq]; rfl

theorem storeAndCount_with_slots (b : Byte) (sl : Vector Frame Config.nSlots) (s : State) :
    countPayload (storePayload b { s with slots := sl }) = { countPayload (storePayload b s) with slots := sl } := by
  rw [storePayload_eq, storePayload_eq]; rfl

/-- The receiver reads no slot, and writes the one at `HEAD` alone. -/
theorem Reception.sameQueue {b : Byte} {s t : State} (r : Reception b s t) {sl : Vector Frame Config.nSlots}
    (same : liveFrames { s with slots := sl } = liveFrames s) :
    ∃ t', Reception b { s with slots := sl } t' ∧ SameQueue t t' := by
  cases r with
  | readOnly between only => exact ⟨_, .readOnly between only, sl, rfl, same⟩
  | encoder between query => exact ⟨_, .encoder between query, sl, rfl, same⟩
  | poll between sentinel =>
    exact ⟨_, .poll between sentinel, sl, deassertBusy_with_slots sl (loadToread 31#5 s),
      liveFrames_with_slots_congr same (by simp) (by simp) (by simp)⟩
  | start between framed waits => exact ⟨_, .start between framed waits, sl, rfl, same⟩
  | atOnce g between queueable sent =>
    exact ⟨_, .atOnce g between queueable sent,
      completionOf_sameQueue (s := { s with toread := lenField b, cur := g }) same⟩
  | more midFrame left =>
    exact ⟨_, .more midFrame left, sl, storeAndCount_with_slots b sl s,
      liveFrames_with_slots_congr same (by simp) (by simp) (by simp)⟩
  | last midFrame lastOne =>
    refine ⟨_, .last midFrame lastOne, ?_⟩
    rw [storeAndCount_with_slots b sl s]
    exact completionOf_sameQueue (s := countPayload (storePayload b s))
      (liveFrames_with_slots_congr same (by simp) (by simp) (by simp))

/-- A pop reads the oldest frame of the queue and leaves the rest of it. -/
theorem pop_sameQueue {s : State} {sl : Vector Frame Config.nSlots}
    (same : liveFrames { s with slots := sl } = liveFrames s) (nonempty : s.head ≠ s.tail) :
    slotRead { s with slots := sl } s.tail = slotRead s s.tail ∧
      liveFrames { s with slots := sl, tail := s.tail + 1#5 } = liveFrames { s with tail := s.tail + 1#5 } := by
  have popped := liveFrames_of_pop (t := { s with tail := s.tail + 1#5 }) nonempty rfl rfl rfl
  have popped' := liveFrames_of_pop (s := { s with slots := sl })
    (t := { s with slots := sl, tail := s.tail + 1#5 }) nonempty rfl rfl rfl
  rw [same, popped] at popped'
  obtain ⟨oldest, left⟩ := List.cons.inj popped'
  exact ⟨oldest.symm, left.symm⟩

theorem simulation_sameQueue : Simulation SameQueue where
  script_eq := by rintro s s' ⟨sl, rfl, -⟩; rfl
  enabled_eq e := by rintro ⟨sl, rfl, -⟩; cases e <;> rfl
  withScript rest := by rintro ⟨sl, rfl, same⟩; exact ⟨sl, rfl, same⟩
  recordStep e := by rintro ⟨sl, rfl, same⟩; exact ⟨sl, rfl, same⟩
  takes := by
    rintro s s' u e ⟨sl, rfl, same⟩ h
    cases h with
    | rx r =>
      obtain ⟨t', r', same'⟩ := r.sameQueue same
      exact ⟨t', .rx r', same'⟩
    | pop noFrame nonempty =>
      obtain ⟨oldest, left⟩ := pop_sameQueue same ((isEmpty_eq_false s).1 nonempty)
      exact ⟨_, .pop noFrame nonempty, sl, by rw [oldest], left⟩
    | perform held notInit => exact ⟨_, .perform held notInit, sl, rfl, same⟩
    | init held isInit => exact ⟨_, .init held isInit, sl, rfl, liveFrames_with_slots_of_empty sl rfl⟩
    | refresh => exact ⟨_, .refresh, sl, rfl, same⟩
    | encMove d => exact ⟨_, .encMove d, sl, rfl, same⟩
    | btnChange m => exact ⟨_, .btnChange m, sl, rfl, same⟩
    | rst => exact ⟨_, .rst, sl, rfl, liveFrames_with_slots_of_empty sl rfl⟩

/-- Settles O52: the two states stay the same but for slots outside the queue. -/
theorem slotsOutsideTheQueueAreNeverRead : Obligations.SlotsOutsideTheQueueAreNeverRead := by
  intro s t sl same h
  have related : SameQueue s { s with slots := sl } := ⟨sl, rfl, same⟩
  obtain ⟨t', h', sl', rfl, same'⟩ := simulation_sameQueue.step_related .recordBusy related h
  exact ⟨_, h', rfl, same'⟩

end Sys2Proof.Machine
end

section
/-! Runs of received bytes: a frame sent whole on the wire, and frames sent one after another. -/

namespace Sys2Proof.Machine

/-- A run goes on where its first part ends. -/
theorem run_add_of_run {s t : State} (m n : Nat) (h : Sys2Proof.core.run m s = .next t) :
    Sys2Proof.core.run (m + n) s = Sys2Proof.core.run n t := by
  induction m generalizing s with
  | zero =>
    injection h with h
    rw [Nat.zero_add, h]
  | succ m ih =>
    obtain ⟨u, hu⟩ := step_answers_next s
    rw [run_succ_of_step m hu] at h
    rw [Nat.succ_add, run_succ_of_step (m + n) hu, ih h]

/-- The record has grown by entries without outputs. -/
def Silent (s t : State) : Prop := ∃ added, t.trace = s.trace ++ added ∧ added.filterMap obsOutput = []

theorem Silent.refl (s : State) : Silent s s := ⟨[], (List.append_nil _).symm, rfl⟩

theorem Silent.trans {s t u : State} (first : Silent s t) (second : Silent t u) : Silent s u := by
  obtain ⟨a, ha, noA⟩ := first
  obtain ⟨b, hb, noB⟩ := second
  exact ⟨a ++ b, by rw [hb, ha, List.append_assoc], by rw [List.filterMap_append, noA, noB, List.append_nil]⟩

theorem Silent.outputsBetween_eq_nil {s t : State} (silent : Silent s t) : outputsBetween s t = [] := by
  obtain ⟨added, grown, noOutputs⟩ := silent
  rw [outputsBetween_of_trace grown, noOutputs]

/-- A step that emits nothing leaves only its own entry and the level in the record. -/
theorem Takes.silent {e : Event} {rest : List Event} {s u : State} (h : Takes (begun e rest s) e u)
    (noOutputs : outputsOf e s = []) : Silent s (recordBusy u) :=
  ⟨_, h.trace_recordBusy, by rw [noOutputs]; rfl⟩

/-- What a step within a frame leaves of all that a master sees: nothing is emitted, and queue and `BUSY` stay. -/
structure QueueUntouched (s t : State) : Prop where
  silent : Silent s t
  queue : liveFrames t = liveFrames s
  room : isFull t = isFull s
  busy_eq : t.busy = s.busy

/-- What the receipt of a whole frame does: the decoder is between frames, nothing is emitted, the frame is queued if there is
room, and a frame queued as the 22nd or a later one raises `BUSY` (41_framing.md R140). -/
structure FrameReceived (f : Frame) (rest : List Event) (s t : State) : Prop where
  script_eq : t.script = rest
  between : t.pos = 0#6
  silent : Silent s t
  queue : liveFrames t = if isFull s then liveFrames s else liveFrames s ++ [f]
  busy_eq : t.busy = (s.busy || (!isFull s && decide (22 ≤ (liveFrames t).length)))

/-- The steps within a frame may come before the rest of it. -/
theorem FrameReceived.of_step {f : Frame} {rest : List Event} {s u t : State} (received : FrameReceived f rest u t)
    (untouched : QueueUntouched s u) : FrameReceived f rest s t where
  script_eq := received.script_eq
  between := received.between
  silent := untouched.silent.trans received.silent
  queue := by rw [received.queue, untouched.queue, untouched.room]
  busy_eq := by rw [received.busy_eq, untouched.room, untouched.busy_eq]

/-- The completion of a frame, as the machine's step, receives it. -/
theorem frameReceived_of_completion {rest : List Event} {s u : State} (script : u.script = rest)
    (silent : Silent s (recordBusy (completionOf u))) (queue : liveFrames u = liveFrames s) (room : isFull u = isFull s)
    (busy : u.busy = s.busy) : FrameReceived u.cur rest s (recordBusy (completionOf u)) where
  script_eq := (completionOf_script u).trans script
  between := completionOf_pos u
  silent := silent
  queue := (liveFrames_completionOf u).trans (by rw [queue, room])
  busy_eq := (busy_completionOf u).trans (by rw [room, busy]; rfl)

/-- A payload byte that is not the last, as a step of the machine (41_framing.md R139). -/
theorem step_more {s : State} {b : Byte} {rest : List Event} (script : s.script = .rx b :: rest) (midFrame : s.pos ≠ 0#6)
    (left : s.toread ≠ 1#5) (within : s.pos.toNat ≤ 32) :
    ∃ u, step s = .next u ∧ QueueUntouched s u ∧ u.script = rest ∧ u.pos = s.pos + 1#6 ∧ u.toread = s.toread - 1#5 ∧
      u.cur = ⟨s.cur.opcode, s.cur.length, s.cur.payload ++ [b]⟩ := by
  have taken : Takes (begun (.rx b) rest s) (.rx b) _ := .rx (.more midFrame left)
  have untouched : QueueUntouched s (recordBusy (countPayload (storePayload b (begun (.rx b) rest s)))) :=
    ⟨taken.silent (if_neg midFrame), liveFrames_congr (by simp) (by simp) (by simp), by simp [isFull], by simp⟩
  exact ⟨_, step_of_takes script taken, untouched, by simp, by simp, by simp,
    storePayload_cur_of_le (s := begun (.rx b) rest s) b midFrame within⟩

/-- The last payload byte, as a step of the machine (41_framing.md R139, R140). -/
theorem step_last {s : State} {b : Byte} {rest : List Event} (script : s.script = .rx b :: rest) (midFrame : s.pos ≠ 0#6)
    (lastOne : s.toread = 1#5) (within : s.pos.toNat ≤ 32) :
    ∃ t, step s = .next t ∧ FrameReceived ⟨s.cur.opcode, s.cur.length, s.cur.payload ++ [b]⟩ rest s t := by
  have taken : Takes (begun (.rx b) rest s) (.rx b) _ := .rx (.last midFrame lastOne)
  have stored := storePayload_cur_of_le (s := begun (.rx b) rest s) b midFrame within
  refine ⟨_, step_of_takes script taken, ?_⟩
  exact stored ▸ frameReceived_of_completion (by simp) (taken.silent (if_neg midFrame))
    (liveFrames_congr (by simp) (by simp) (by simp)) (by simp [isFull]) (by simp)

/-- The payload bytes of a frame, from the first missing one to the last: the frame is received with those bytes appended. -/
theorem run_payload (b : Byte) (bs : List Byte) {s : State} {rest : List Event} (midFrame : s.pos ≠ 0#6)
    (left : s.toread.toNat = bs.length + 1) (within : s.pos.toNat + bs.length ≤ 32)
    (script : s.script = (b :: bs).map Event.rx ++ rest) :
    ∃ t, Sys2Proof.core.run (bs.length + 1) s = .next t ∧
      FrameReceived ⟨s.cur.opcode, s.cur.length, s.cur.payload ++ b :: bs⟩ rest s t := by
  induction bs generalizing b s with
  | nil =>
    obtain ⟨t, h, received⟩ := step_last script midFrame (BitVec.eq_of_toNat_eq left) within
    exact ⟨t, run_succ_of_step 0 h, received⟩
  | cons c bs ih =>
    rw [List.length_cons] at left within ⊢
    have notLast : s.toread ≠ 1#5 := by
      intro lastOne
      rw [lastOne] at left
      exact absurd left (by simp)
    obtain ⟨u, h, untouched, uScript, uPos, uRead, uCur⟩ := step_more script midFrame notLast (by omega)
    have nextPos : u.pos.toNat = s.pos.toNat + 1 := by rw [uPos]; bv_omega
    have nextRead : u.toread.toNat = bs.length + 1 := by rw [uRead]; bv_omega
    have uMid : u.pos ≠ 0#6 := by
      intro zero
      rw [zero] at nextPos
      exact absurd nextPos (by simp)
    obtain ⟨t, ran, received⟩ := ih c uMid nextRead (by omega) uScript
    rw [uCur, List.append_assoc] at received
    exact ⟨t, (run_succ_of_step _ h).trans ran, received.of_step untouched⟩

/-- A frame that is one byte on the wire, as a step of the machine (41_framing.md R132, 42_status_control.md R166). -/
theorem step_atOnce {f : Frame} {b : Byte} {s : State} {rest : List Event} (queueable : QueueableFrame f)
    (sent : wireBytes f = [b]) (between : s.pos = 0#6) (script : s.script = .rx b :: rest) :
    ∃ t, step s = .next t ∧ FrameReceived f rest s t := by
  have taken : Takes (begun (.rx b) rest s) (.rx b) _ := .rx (.atOnce f between queueable sent)
  exact ⟨_, step_of_takes script taken,
    frameReceived_of_completion rfl (taken.silent (outputsOf_rx_of_sent queueable sent s)) rfl rfl rfl⟩

/-- The command byte of a frame that waits for its payload, as a step of the machine (41_framing.md R132). -/
theorem step_start {op : Opcode} {len : Len} {s : State} {rest : List Event} (framed : isFramed op = true)
    (waits : len ≠ 0#5) (between : s.pos = 0#6) (script : s.script = .rx (packFields op len) :: rest) :
    ∃ u, step s = .next u ∧ QueueUntouched s u ∧ u.script = rest ∧ u.pos = 1#6 ∧ u.toread = len ∧
      u.cur = ⟨op, len, []⟩ := by
  have opEq := opcodeOf_packFields op len
  have lenEq := lenField_packFields op len
  have framedByte : isFramed (opcodeOf (packFields op len)) = true := by rw [opEq]; exact framed
  have taken : Takes (begun (.rx (packFields op len)) rest s) (.rx (packFields op len)) _ :=
    .rx (.start between framedByte (by rw [lenEq]; exact waits))
  refine ⟨_, step_of_takes script taken, ⟨taken.silent (outputsOf_rx_of_isFramed framedByte s), rfl, rfl, rfl⟩, rfl, rfl,
    lenEq, ?_⟩
  rw [recordBusy_cur, opEq, lenEq]

/-- A frame that the framer queues, sent whole to a decoder between frames, is received (41_framing.md sections 3, 5, 6). -/
theorem run_wireBytes {f : Frame} {s : State} {rest : List Event} (queueable : QueueableFrame f) (between : s.pos = 0#6)
    (script : s.script = (wireBytes f).map Event.rx ++ rest) :
    ∃ t, Sys2Proof.core.run (wireBytes f).length s = .next t ∧ FrameReceived f rest s t := by
  obtain ⟨op, len, payload⟩ := f
  have stored : payload.length = len.toNat := (sizedFrame_iff _).1 queueable.1
  cases payload with
  | nil =>
    obtain ⟨b, sent⟩ : ∃ b, wireBytes ⟨op, len, []⟩ = [b] := by
      obtain framed | ⟨init, -⟩ := queueable.2
      · exact ⟨_, wireBytes_of_framed framed⟩
      · exact ⟨_, wireBytes_of_init init⟩
    rw [sent] at script ⊢
    obtain ⟨t, h, received⟩ := step_atOnce queueable sent between script
    exact ⟨t, run_succ_of_step 0 h, received⟩
  | cons p ps =>
    have waits : len ≠ 0#5 := by
      rintro rfl
      exact absurd stored (Nat.succ_ne_zero _)
    have framed : isFramed op = true := by
      obtain framed | ⟨-, zero⟩ := queueable.2
      · exact framed
      · exact absurd zero waits
    rw [wireBytes_of_framed framed] at script ⊢
    obtain ⟨u, h, untouched, uScript, uPos, uRead, uCur⟩ := step_start framed waits between script
    have fits := len.isLt
    rw [List.length_cons] at stored
    have uMid : u.pos ≠ 0#6 := by rw [uPos]; decide
    have within : u.pos.toNat + ps.length ≤ 32 := by
      rw [uPos]
      show 1 + ps.length ≤ 32
      omega
    obtain ⟨t, ran, received⟩ := run_payload p ps uMid (by rw [uRead, ← stored]) within uScript
    rw [uCur] at received
    exact ⟨t, (run_succ_of_step _ h).trans ran, received.of_step untouched⟩

/-- Settles O43: the frame is one that the framer queues, and it is received. -/
theorem wireFrameIsQueuedWithItsPayload : Obligations.WireFrameIsQueuedWithItsPayload := by
  intro s op len bs rest framed sized between script
  have queueable : QueueableFrame ⟨op, len, bs⟩ := ⟨(sizedFrame_iff _).2 sized, .inl framed⟩
  have sent : wireBytes ⟨op, len, bs⟩ = packFields op len :: bs := wireBytes_of_framed framed
  obtain ⟨t, ran, received⟩ := run_wireBytes queueable between (by rw [sent]; exact script)
  rw [sent] at ran
  refine ⟨t, ran, received.between, received.script_eq, received.silent.outputsBetween_eq_nil, fun high => ?_,
    received.queue⟩
  rw [received.busy_eq, high, Bool.true_or]

/-- What the receipt of several frames does: the first that fit are queued, and `BUSY` is raised by one that is queued with
22 or more frames there (43_flow_control.md section 3). -/
structure FramesReceived (fs : List Frame) (rest : List Event) (s t : State) : Prop where
  script_eq : t.script = rest
  between : t.pos = 0#6
  silent : Silent s t
  queue : liveFrames t = liveFrames s ++ fs.take (31 - (liveFrames s).length)
  busy_iff : t.busy = true ↔
    s.busy = true ∨ ((liveFrames s).length < (liveFrames t).length ∧ 22 ≤ (liveFrames t).length)

/-- The full ring holds 31 frames (40_ringbuffer.md R116). -/
theorem isFull_iff_length_eq_31 (s : State) : isFull s = true ↔ (liveFrames s).length = 31 := by
  rw [isFull_iff_size_eq_31, liveFrames_length]

theorem length_lt_31_of_room {s : State} (room : isFull s = false) : (liveFrames s).length < 31 := by
  have notFull : (liveFrames s).length ≠ 31 := fun h => by simp [(isFull_iff_length_eq_31 s).2 h] at room
  exact Nat.lt_of_le_of_ne (liveFrames_length_le s) notFull

/-- One frame and then the others: the room left for the others is one less if the frame took its place. -/
theorem FramesReceived.cons {f : Frame} {fs : List Frame} {rest rest' : List Event} {s u t : State}
    (first : FrameReceived f rest' s u) (others : FramesReceived fs rest u t) : FramesReceived (f :: fs) rest s t := by
  have noneLost : (liveFrames u).length ≤ (liveFrames t).length := by
    rw [others.queue, List.length_append]
    exact Nat.le_add_right _ _
  have queue := first.queue
  have busy := first.busy_eq
  cases full : isFull s with
  | true =>
    rw [full, if_pos rfl] at queue
    rw [full, Bool.not_true, Bool.false_and, Bool.or_false] at busy
    refine ⟨others.script_eq, others.between, first.silent.trans others.silent, ?_, ?_⟩
    · rw [others.queue, queue, (isFull_iff_length_eq_31 s).1 full]
      rfl
    · rw [others.busy_iff, queue, busy]
  | false =>
    rw [full, if_neg Bool.false_ne_true] at queue
    rw [full, Bool.not_false, Bool.true_and] at busy
    have oneMore : (liveFrames u).length = (liveFrames s).length + 1 := by
      rw [queue, List.length_append, List.length_singleton]
    have room : 31 - (liveFrames s).length = 31 - (liveFrames u).length + 1 := by
      have := length_lt_31_of_room full
      omega
    refine ⟨others.script_eq, others.between, first.silent.trans others.silent, ?_, ?_⟩
    · rw [others.queue, room, List.take_succ_cons, queue, List.append_assoc]
      rfl
    · rw [others.busy_iff, busy, Bool.or_eq_true, decide_eq_true_iff, or_assoc]
      refine or_congr_right ?_
      omega

/-- Frames that the framer queues, sent whole one after another: by induction on them. -/
theorem run_frames (fs : List Frame) {s : State} {rest : List Event} (queueable : ∀ f ∈ fs, QueueableFrame f)
    (between : s.pos = 0#6) (script : s.script = (fs.flatMap wireBytes).map Event.rx ++ rest) :
    ∃ t, Sys2Proof.core.run (fs.flatMap wireBytes).length s = .next t ∧ FramesReceived fs rest s t := by
  induction fs generalizing s with
  | nil =>
    refine ⟨s, rfl, script, between, .refl s, by rw [List.take_nil, List.append_nil], ?_⟩
    exact ⟨.inl, fun h => h.resolve_right fun longer => absurd longer.1 (Nat.lt_irrefl _)⟩
  | cons f fs ih =>
    rw [List.flatMap_cons, List.map_append, List.append_assoc] at script
    obtain ⟨u, ranFirst, first⟩ := run_wireBytes (queueable f List.mem_cons_self) between script
    obtain ⟨t, ranOthers, others⟩ :=
      ih (fun g member => queueable g (List.mem_cons_of_mem f member)) first.between first.script_eq
    refine ⟨t, ?_, FramesReceived.cons first others⟩
    rw [List.flatMap_cons, List.length_append, run_add_of_run _ _ ranFirst, ranOthers]

/-- Settles O44: the frames are received; with 21 queued before, ten fit, and the first of them makes 22. -/
theorem guardBandHoldsNineMoreFrames : Obligations.GuardBandHoldsNineMoreFrames := by
  intro s fs rest queueable between script
  obtain ⟨t, ran, received⟩ := run_frames fs queueable between script
  refine ⟨t, ran, received.script_eq, received.between, received.silent.outputsBetween_eq_nil, received.queue,
    received.busy_iff, ?_⟩
  rintro raising more queued rfl
  have queue : liveFrames t = liveFrames s ++ raising :: more.take 9 := by
    rw [received.queue, queued]
    rfl
  refine ⟨received.busy_iff.2 (.inr ?_), queue⟩
  rw [queue, List.length_append, List.length_cons, queued]
  omega

end Sys2Proof.Machine
end
